-- ==== Sys2Proof/Word.lean ====
section
/-! DEFINITION. The word types of the core and the names of its operand tables (spec/00_scope.md R8, spec/30_encoding.md R203-R207). -/

namespace Sys2Proof

/-- A data word: 8 bits (00_scope.md R8). -/
abbrev Byte := BitVec 8

/-- A pair, SP or PC: 16 bits (00_scope.md R8). -/
abbrev Word := BitVec 16

/-- A bus address: 16 bits, so the space is 65,536 bytes (00_scope.md R8). -/
abbrev Addr := BitVec 16

/-- A packed ARGB pixel: 32 bits (00_scope.md R8). -/
abbrev Argb := BitVec 32

/-- The seven 8-bit general registers (10_state.md R40). -/
inductive Reg8 where
  | b | c | d | e | h | l | a
deriving DecidableEq, Repr

/-- An entry of the register-selection table r8: a register, or the byte at HL for index 6 (30_encoding.md R203). -/
inductive R8 where
  | reg (r : Reg8)
  | atHl
deriving DecidableEq, Repr

/-- The pair table rp (30_encoding.md R204). -/
inductive Pair where
  | bc | de | hl | sp
deriving DecidableEq, Repr

/-- The pair table rp2 of PUSH and POP (30_encoding.md R204). -/
inductive StackPair where
  | bc | de | hl | af
deriving DecidableEq, Repr

/-- The condition table cc (30_encoding.md R205). -/
inductive Cond where
  | nz | z | nc | c
deriving DecidableEq, Repr

/-- The ALU operation table (30_encoding.md R206). -/
inductive AluOp where
  | add | adc | sub | sbc | and | xor | or | cp
deriving DecidableEq, Repr

/-- The rotates and shifts of the extended table, e < 0x40 (30_encoding.md R207). -/
inductive RotOp where
  | rlc | rrc | rl | rr | sla | sra | swap | srl
deriving DecidableEq, Repr

end Sys2Proof
end

