-- ==== Sys2Proof/Config.lean ====
section
/-! DEFINITION. The named parameters of the core (spec/00_scope.md R9): those with a value stand at the spec's value, the OPEN ones are opaque. -/

namespace Sys2Proof.Config

/-- UNMAPPED_READ: the byte a read returns that no device answers (00_scope.md R9, 20_memory.md R104). -/
def unmappedRead : Byte := 0xFF

/-- MODE3_CYCLES: the length of pixel transfer (00_scope.md R9, 60_exceptions.md R820). -/
def mode3Cycles : Nat := 172

/-- The length of OAM scan in cycles (00_scope.md R8). -/
def oamScanCycles : Nat := 80

/-- Cycles of one scanline (00_scope.md R8). -/
def lineCycles : Nat := 456

/-- The last of the 154 scanlines (00_scope.md R8, 60_exceptions.md R820). -/
def lastLine : Byte := 153

/-- Visible scanlines, 0 to 143 (00_scope.md R8). -/
def visibleLines : Nat := 144

/-- Pixels of one line (00_scope.md R8). -/
def lineWidth : Nat := 160

/-- INT_DISPATCH_CYCLES (00_scope.md R9, 60_exceptions.md R722). -/
def intDispatchCycles : Nat := 20

/-- The cycles of one HALTED idle step (45_system.md R603). -/
def idleCycles : Nat := 4

/-- HALT_BUG (00_scope.md R9, 45_system.md R610). -/
def haltBug : Bool := true

/-- DIV_PERIOD (00_scope.md R9, 60_exceptions.md R750). -/
def divPeriod : Nat := 256

/-- TIMA_PERIOD[SEL] (00_scope.md R9, 60_exceptions.md R751). -/
def timaPeriod (sel : BitVec 2) : Nat :=
  match sel.toNat with
  | 0 => 1024
  | 1 => 16
  | 2 => 64
  | _ => 256

/-- STAT_MODE_INTERRUPTS (00_scope.md R9, 60_exceptions.md R832). -/
def statModeInterrupts : Bool := false

/-- SHADE_ARGB, OPEN: the ARGB value of each of the four shades has no law (00_scope.md R9, 60_exceptions.md R841; log 4). -/
opaque shadeArgb : BitVec 2 → Argb

/-- LOGO: the 48 bytes the load compares (70_reset_and_hazards.md R914). -/
def logo : List Byte :=
  [0xCE, 0xED, 0x66, 0x66, 0xCC, 0x0D, 0x00, 0x0B, 0x03, 0x73, 0x00, 0x83, 0x00, 0x0C, 0x00, 0x0D] ++
  [0x00, 0x08, 0x11, 0x1F, 0x88, 0x89, 0x00, 0x0E, 0xDC, 0xCC, 0x6E, 0xE6, 0xDD, 0xDD, 0xD9, 0x99] ++
  [0xBB, 0xBB, 0x67, 0x63, 0x6E, 0x0E, 0xEC, 0xCC, 0xDD, 0xDC, 0x99, 0x9F, 0xBB, 0xB9, 0x33, 0x3E]

end Sys2Proof.Config
end

