-- ==== Sys2Proof/Machine/Memory.lean ====
section
/-! DEFINITION. The memories of the core as sparse byte arrays in one canonical form (spec/10_state.md R48), and the OAM snapshot read from them. -/

namespace Sys2Proof.Machine

/-- What a byte of memory that nothing lists reads as: INIT_MEM is OPEN in the spec (00_scope.md R9); DESIGN CHOICE 0x00, unsafe (log 1). -/
def unlisted : Byte := 0x00

/-- The byte of a sparse array at an index. -/
def Cells.read (cs : List Host.Cell) (i : Nat) : Byte :=
  match cs with
  | [] => unlisted
  | (j, b) :: t => if i = j then b else if i < j then unlisted else Cells.read t i

/-- The sparse array after storing `v` at an index, the list kept sorted and without an unlisted byte. -/
def Cells.write (cs : List Host.Cell) (i : Nat) (v : Byte) : List Host.Cell :=
  match cs with
  | [] => if v = unlisted then [] else [(i, v)]
  | (j, b) :: t =>
    if i < j then (if v = unlisted then (j, b) :: t else (i, v) :: (j, b) :: t)
    else if i = j then (if v = unlisted then t else (i, v) :: t)
    else (j, b) :: Cells.write t i v

/-- A list of bytes as a sparse array whose first byte has index `i`. -/
def Cells.ofBytes (i : Nat) (bs : List Byte) : List Host.Cell :=
  match bs with
  | [] => []
  | b :: t => if b = unlisted then Cells.ofBytes (i + 1) t else (i, b) :: Cells.ofBytes (i + 1) t

/-- The canonical form: indexes strictly rising, no entry equal to what an unlisted index reads as. -/
abbrev Cells.wf (cs : List Host.Cell) : Prop :=
  cs.Pairwise (fun x y => x.1 < y.1) ∧ ∀ c ∈ cs, c.2 ≠ unlisted

/-- Every entry lies in an array of `n` bytes. -/
abbrev Cells.within (cs : List Host.Cell) (n : Nat) : Prop := ∀ c ∈ cs, c.1 < n

/-- The seven memories of R48. -/
inductive Region where
  | vram | wram | oam | hram | audio | cartRam | cartRom
deriving DecidableEq, Repr

/-- The contents of the seven memories, each a byte array indexed from 0 (R48). -/
structure Memory where
  vram    : List Host.Cell
  wram    : List Host.Cell
  oam     : List Host.Cell
  hram    : List Host.Cell
  audio   : List Host.Cell
  cartRam : List Host.Cell
  cartRom : List Host.Cell
deriving DecidableEq, Repr

/-- The memory with nothing listed. -/
def Memory.empty : Memory := ⟨[], [], [], [], [], [], []⟩

/-- One of the arrays. -/
def Memory.cells (m : Memory) (r : Region) : List Host.Cell :=
  match r with
  | .vram => m.vram
  | .wram => m.wram
  | .oam => m.oam
  | .hram => m.hram
  | .audio => m.audio
  | .cartRam => m.cartRam
  | .cartRom => m.cartRom

/-- The memory with one of the arrays replaced. -/
def Memory.setCells (m : Memory) (r : Region) (cs : List Host.Cell) : Memory :=
  match r with
  | .vram => { m with vram := cs }
  | .wram => { m with wram := cs }
  | .oam => { m with oam := cs }
  | .hram => { m with hram := cs }
  | .audio => { m with audio := cs }
  | .cartRam => { m with cartRam := cs }
  | .cartRom => { m with cartRom := cs }

/-- The byte at an index of an array. -/
def Memory.read (m : Memory) (r : Region) (i : Nat) : Byte := Cells.read (m.cells r) i

/-- The memory after storing a byte at an index of an array. -/
def Memory.write (m : Memory) (r : Region) (i : Nat) (v : Byte) : Memory :=
  m.setCells r (Cells.write (m.cells r) i v)

/-- Every array has the canonical form. -/
abbrev Memory.wf (m : Memory) : Prop :=
  Cells.wf m.vram ∧ Cells.wf m.wram ∧ Cells.wf m.oam ∧ Cells.wf m.hram ∧ Cells.wf m.audio ∧
    Cells.wf m.cartRam ∧ Cells.wf m.cartRom

/-- Every array's entries lie in the array, `ramSize` and `romSize` being the cartridge's sizes (R48). -/
abbrev Memory.within (m : Memory) (ramSize romSize : Nat) : Prop :=
  Cells.within m.vram 8192 ∧ Cells.within m.wram 8192 ∧ Cells.within m.oam 160 ∧ Cells.within m.hram 127 ∧
    Cells.within m.audio 48 ∧ Cells.within m.cartRam ramSize ∧ Cells.within m.cartRom romSize

/-- An entry of the OAM snapshot (60_exceptions.md R845). -/
structure Sprite where
  y     : Byte
  x     : Byte
  tile  : Byte
  flags : Byte
  addr  : Nat
deriving DecidableEq, Repr

/-- Entry `i` of OAM (R845). -/
def oamEntry (m : Memory) (i : Nat) : Sprite :=
  { y := m.read .oam (4 * i), x := m.read .oam (4 * i + 1), tile := m.read .oam (4 * i + 2),
    flags := m.read .oam (4 * i + 3), addr := i }

/-- OamSnapshot(): the 40 entries as they are now (R845). -/
def oamSnapshot (m : Memory) : List Sprite := (List.range 40).map (oamEntry m)

end Sys2Proof.Machine
end

