-- ==== Sys2Proof/Machine/State.lean ====
section
/-! DEFINITION. The state of the core as plain data (spec/10_state.md R40-R65), its reset value (R66), and the reasons a step can stop. -/

namespace Sys2Proof.Machine

/-- The four flags of F: bit 7 FZ, 6 FN, 5 FH, 4 FC; bits 3..0 read as 0 and are not stored (R42). -/
@[ext] structure Flags where
  z : Bool
  n : Bool
  h : Bool
  c : Bool
deriving DecidableEq, Repr

/-- The register file (R40, R41, R42). -/
@[ext] structure Regs where
  a  : Byte
  f  : Flags
  b  : Byte
  c  : Byte
  d  : Byte
  e  : Byte
  h  : Byte
  l  : Byte
  sp : Word
  pc : Word
deriving DecidableEq, Repr

/-- IME_PENDING (R46). -/
inductive ImePending where
  | none | set | clear
deriving DecidableEq, Repr

/-- RUN (R47). -/
inductive RunState where
  | running | halted | stopped | locked
deriving DecidableEq, Repr

/-- FAULT (R65). -/
inductive FaultRecord where
  | none
  | illegalOpcode (op : Byte) (addr : Addr)
deriving DecidableEq, Repr

/-- The cartridge variants (70_reset_and_hazards.md R913). -/
inductive CartKind where
  | romOnly | mbc1
deriving DecidableEq, Repr

/-- The cartridge: what the load fixes (R48, R900, R911, R912) and the bank-controller registers (R64). -/
@[ext] structure Cart where
  kind      : CartKind
  romSize   : Nat
  nrom      : Nat
  ramSize   : Nat
  ramEn     : Bool
  bankLo    : BitVec 5
  bankHi    : BitVec 2
  modeLatch : Bool
deriving DecidableEq, Repr

/-- The timer: DIV, DIV_SUB, TIMA, TMA, TIMA_SUB and TAC's fields (R51, R52, R53). -/
@[ext] structure Timer where
  div    : Byte
  divSub : Nat
  tima   : Byte
  tma    : Byte
  timaSub : Nat
  enable : Bool
  sel    : BitVec 2
deriving DecidableEq, Repr

/-- The PPU's mode (R57, R62, 60_exceptions.md R820). -/
inductive PpuMode where
  | hblank | vblank | oamScan | transfer
deriving DecidableEq, Repr

/-- The PPU: its registers (R56-R61), its internal state (R62) and the framebuffer, a list of 144 lines of 160 pixels (R49). -/
@[ext] structure Ppu where
  lcdc    : Byte
  statHi  : BitVec 4
  scy     : Byte
  scx     : Byte
  ly      : Byte
  lyc     : Byte
  dma     : Byte
  bgp     : Byte
  obp0    : Byte
  obp1    : Byte
  wy      : Byte
  wx      : Byte
  lineCyc : Nat
  mode    : PpuMode
  spr     : List Sprite
  fb      : List (List Argb)
deriving DecidableEq, Repr

/-- The eight buttons (R63). -/
inductive Button where
  | right | left | up | down | a | b | select | start
deriving DecidableEq, Repr

/-- BTN[k], true when pressed (R63). -/
structure Buttons where
  right  : Bool
  left   : Bool
  up     : Bool
  down   : Bool
  a      : Bool
  b      : Bool
  select : Bool
  start  : Bool
deriving DecidableEq, Repr

/-- The joypad: P1's selection bits (R50) and the buttons (R63). -/
@[ext] structure Joypad where
  selButtons : Bool
  selDirs    : Bool
  btn        : Buttons
deriving DecidableEq, Repr

/-- What the host may do to a running core between two ticks (60_exceptions.md R800). -/
inductive HostMove where
  | press (k : Button)
  | release (k : Button)
deriving DecidableEq, Repr

/-- The whole state of the core. The last three fields are the model's own (log 5, 6, 7). -/
@[ext]
structure State where
  /-- the register file (R40-R42) -/
  regs       : Regs
  /-- IME (R45) -/
  ime        : Bool
  /-- IME_PENDING (R46) -/
  imePending : ImePending
  /-- RUN (R47) -/
  run        : RunState
  /-- HALT_REPEAT (R47) -/
  haltRepeat : Bool
  /-- FAULT (R65) -/
  faultRec   : FaultRecord
  /-- IE (R55) -/
  ie         : Byte
  /-- the five stored bits of IF (R54) -/
  ifl        : BitVec 5
  /-- VRAM, WRAM, OAM, HRAM, AUDIO, CART_RAM, CART_ROM (R48) -/
  mem        : Memory
  /-- the cartridge controller (R64) -/
  cart       : Cart
  /-- the timer (R51-R53) -/
  timer      : Timer
  /-- the PPU (R49, R56-R62) -/
  ppu        : Ppu
  /-- the joypad (R50, R63) -/
  joypad     : Joypad
  /-- the value the last ExecuteOneInstruction returned (45_system.md R603; log 5) -/
  cycles     : Nat
  /-- R603's `addr`, the address of the running instruction's opcode byte (log 6) -/
  opAddr     : Addr
  /-- the host's moves still to come, one batch before each tick (R800; log 7) -/
  hostMoves  : List (List HostMove)
deriving DecidableEq, Repr

/-- Why the machine stops: in both cases the spec enables no tick (45_system.md R600; log 8). -/
inductive Fault where
  /-- Raised by `step` when RUN = LOCKED and no host move is left: after an illegal opcode no tick is ever enabled (45_system.md R620). Safe: the spec gives no step. -/
  | locked
  /-- Raised by `step` when RUN = STOPPED and no host move is left: only a button press ends STOPPED (R612, R613). Safe: the spec gives no step. -/
  | stopped
deriving DecidableEq, Repr

/-- Why an instruction has no meaning. -/
inductive Refusal where
  /-- Raised by `exec` for an instruction not modelled yet. Safe: no claim covers it. No instruction of this model raises it. -/
  | notModelled (mnemonic : String)
deriving DecidableEq, Repr

/-- What a step or a meaning answers. -/
abbrev Result := Host.Outcome State Fault Refusal

/-- The register file after reset (R66). -/
def Regs.reset : Regs :=
  { a := 0x01, f := ⟨true, false, true, true⟩, b := 0x00, c := 0x13, d := 0x00, e := 0xD8, h := 0x01, l := 0x4D,
    sp := 0xFFFE, pc := 0x0100 }

/-- The timer after reset (R66). -/
def Timer.reset : Timer :=
  { div := 0xAB, divSub := 0, tima := 0x00, tma := 0x00, timaSub := 0, enable := false, sel := 0 }

/-- The PPU after reset, with the snapshot a copy of OAM and the framebuffer given (R66). -/
def Ppu.reset (mem : Memory) (fb : List (List Argb)) : Ppu :=
  { lcdc := 0x91, statHi := 0, scy := 0x00, scx := 0x00, ly := 0, lyc := 0x00, dma := 0xFF, bgp := 0xFC, obp0 := 0xFF,
    obp1 := 0xFF, wy := 0x00, wx := 0x00, lineCyc := 0, mode := .oamScan, spr := oamSnapshot mem, fb := fb }

/-- The joypad after reset (R66). -/
def Joypad.reset : Joypad :=
  { selButtons := false, selDirs := false, btn := ⟨false, false, false, false, false, false, false, false⟩ }

/-- A cartridge of a variant and of given sizes, its bank-controller registers at their reset values (R64, R66). -/
def Cart.reset (kind : CartKind) (romSize nrom ramSize : Nat) : Cart :=
  { kind := kind, romSize := romSize, nrom := nrom, ramSize := ramSize, ramEn := false, bankLo := 1, bankHi := 0,
    modeLatch := false }

/-- The state the table of R66 gives, for a cartridge, the contents of the memories (INIT_MEM and the image, OPEN) and a framebuffer (any value). -/
def State.resetWith (cart : Cart) (mem : Memory) (fb : List (List Argb)) : State :=
  { regs := Regs.reset, ime := false, imePending := .none, run := .running, haltRepeat := false, faultRec := .none,
    ie := 0x00, ifl := 0x01, mem := mem, cart := cart, timer := Timer.reset, ppu := Ppu.reset mem fb,
    joypad := Joypad.reset, cycles := 0, opAddr := 0x0000, hostMoves := [] }

/-- A framebuffer of zeros: FB is any value at reset (R66); DESIGN CHOICE, unsafe (log 2). -/
def blankFb : List (List Argb) := List.replicate 144 (List.replicate 160 0)

/-- The machine right after reset (R66) with no cartridge image in it: a program is loaded from outside (log 3). -/
def State.reset : State := State.resetWith (Cart.reset .romOnly 0 2 0) Memory.empty blankFb

end Sys2Proof.Machine
end

