-- ==== Sys2Proof/Machine/Cartridge.lean ====
section
/-! DEFINITION. The cartridge: ROM and RAM windows and the bank controller (spec/20_memory.md R150-R157), and the header the load checks (spec/70_reset_and_hazards.md R910-R916). -/

namespace Sys2Proof.Machine

/-- The ROM bank at 0x4000-0x7FFF before its reduction modulo NROM (R156). -/
def Cart.romBank (c : Cart) : Nat :=
  if c.modeLatch then c.bankLo.toNat else 32 * c.bankHi.toNat + c.bankLo.toNat

/-- The offset in CART_ROM that a bus address below 0x8000 names (R150, R155, R156). -/
def Cart.romOffset (c : Cart) (n : Nat) : Nat :=
  match c.kind with
  | .romOnly => n
  | .mbc1 => if n < 0x4000 then n else c.romBank % c.nrom * 0x4000 + (n - 0x4000)

/-- A read of 0x0000-0x7FFF: the image's byte, or UNMAPPED_READ beyond the image (R150, R155, R156). -/
def romRead (c : Cart) (m : Memory) (n : Nat) : Byte :=
  if c.romOffset n < c.romSize then m.read .cartRom (c.romOffset n) else Config.unmappedRead

/-- The RAM bank at 0xA000-0xBFFF (R157). -/
def Cart.ramBank (c : Cart) : Nat := if c.modeLatch then c.bankHi.toNat else 0

/-- The offset in CART_RAM that a bus address 0xA000-0xBFFF names, if external RAM answers it (R150, R157). -/
def Cart.ramOffset (c : Cart) (n : Nat) : Option Nat :=
  match c.kind with
  | .romOnly => none
  | .mbc1 => if c.ramEn && c.ramSize != 0 then some ((c.ramBank * 0x2000 + (n - 0xA000)) % c.ramSize) else none

/-- A write to 0x0000-0x7FFF: nothing on a ROM-only cartridge, a control register of MBC1 (R150-R154). -/
def Cart.control (c : Cart) (n : Nat) (v : Byte) : Cart :=
  match c.kind with
  | .romOnly => c
  | .mbc1 =>
    if n < 0x2000 then { c with ramEn := v.extractLsb' 0 4 == 0xA }
    else if n < 0x4000 then { c with bankLo := if v.extractLsb' 0 5 == 0 then 1 else v.extractLsb' 0 5 }
    else if n < 0x6000 then { c with bankHi := v.extractLsb' 0 2 }
    else { c with modeLatch := v.getLsbD 0 }

/-! ## The header -/

/-- Why a cartridge is refused at load (R916). -/
inductive LoadRefusal where
  | invalidHeader
  | unsupportedCartridgeType
deriving DecidableEq, Repr

/-- NROM by the ROM-size code (R911). -/
def romBanks (code : Byte) : Option Nat := if code.toNat ≤ 8 then some (2 * 2 ^ code.toNat) else none

/-- RamSize by the RAM-size code (R912). -/
def ramBytes (code : Byte) : Option Nat :=
  match code.toNat with
  | 0 => some 0
  | 1 => some 2048
  | 2 => some 8192
  | 3 => some 32768
  | 4 => some 131072
  | 5 => some 65536
  | _ => none

/-- The variant of a supported cartridge type (R913). -/
def cartKind (type : Byte) : Option CartKind :=
  match type.toNat with
  | 0 => some .romOnly
  | 1 => some .mbc1
  | 2 => some .mbc1
  | 3 => some .mbc1
  | _ => none

/-- HeaderChecksum: x <- x - (byte + 1) over 0x134 to 0x14C, modulo 256 (R915). -/
def headerChecksum (image : List Byte) : Byte :=
  ((image.drop 0x134).take 25).foldl (fun x b => x - (b + 1)) 0

/-- |CART_RAM|: the size code's bytes for the types with RAM, else 0 (R900, R912). -/
def cartRamSize (type : Byte) (bytes : Nat) : Nat := if type = 0x02 ∨ type = 0x03 then bytes else 0

/-- CartCheck, its checks in R916's order; an accepted image gives the cartridge of R900. -/
def cartCheck (image : List Byte) : Except LoadRefusal Cart :=
  if image.length < 0x150 then .error .invalidHeader
  else if (image.drop 0x104).take 48 ≠ Config.logo then .error .invalidHeader
  else if headerChecksum image ≠ image.getD 0x14D 0 then .error .invalidHeader
  else
    match cartKind (image.getD 0x147 0) with
    | none => .error .unsupportedCartridgeType
    | some kind =>
      match romBanks (image.getD 0x148 0), ramBytes (image.getD 0x149 0) with
      | some nrom, some bytes => .ok (Cart.reset kind image.length nrom (cartRamSize (image.getD 0x147 0) bytes))
      | _, _ => .error .invalidHeader

end Sys2Proof.Machine
end

