-- ==== Sys2Proof/Machine/Flags.lean ====
section
/-! DEFINITION. The flag byte and every flag computation of the spec (41_alu8.md, 42_alu16.md, 44_bitops.md, 40_loads.md R323): exact integer results, narrowed at the end. -/

namespace Sys2Proof.Machine

/-- F as a byte, its low nibble 0 (10_state.md R42, 00_scope.md R11). -/
def Flags.toByte (f : Flags) : Byte :=
  BitVec.ofNat 8 (128 * f.z.toNat + 64 * f.n.toNat + 32 * f.h.toNat + 16 * f.c.toNat)

/-- The flags of a byte written to F; its low nibble is discarded (R42). -/
def Flags.ofByte (v : Byte) : Flags := ⟨v.getLsbD 7, v.getLsbD 6, v.getLsbD 5, v.getLsbD 4⟩

/-- `trunc_8` of an exact integer (00_scope.md R10). -/
def trunc8 (v : Int) : Byte := BitVec.ofInt 8 v

/-- `trunc_16` of an exact integer (R10). -/
def trunc16 (v : Int) : Word := BitVec.ofInt 16 v

/-- The low nibble of a byte, unsigned. -/
def lowNibble (v : Byte) : Nat := v.toNat % 16

/-- ADD and ADC with carry-in `c` (41_alu8.md R403, R404). -/
def addFlags (a s : Byte) (c : Bool) : Byte × Flags :=
  let r := trunc8 (a.toNat + s.toNat + c.toNat)
  (r, ⟨r == 0, false, decide (lowNibble a + lowNibble s + c.toNat > 0x0F), decide (a.toNat + s.toNat + c.toNat > 0xFF)⟩)

/-- SUB, SBC and CP with borrow-in `c` (R405, R406, R410). -/
def subFlags (a s : Byte) (c : Bool) : Byte × Flags :=
  let r := trunc8 ((a.toNat : Int) - s.toNat - c.toNat)
  (r, ⟨r == 0, true, decide (lowNibble a < lowNibble s + c.toNat), decide (a.toNat < s.toNat + c.toNat)⟩)

/-- The result and the flags of a logic operation, FH as given (R407, R408, R409). -/
def logicFlags (r : Byte) (h : Bool) : Byte × Flags := (r, ⟨r == 0, false, h, false⟩)

/-- The result and the flags of an ALU operation on A, the operand and FC (R400-R410). -/
def aluResult (op : AluOp) (a s : Byte) (c : Bool) : Byte × Flags :=
  match op with
  | .add => addFlags a s false
  | .adc => addFlags a s c
  | .sub => subFlags a s false
  | .sbc => subFlags a s c
  | .and => logicFlags (a &&& s) true
  | .xor => logicFlags (a ^^^ s) false
  | .or => logicFlags (a ||| s) false
  | .cp => (a, (subFlags a s false).2)

/-- INC of a byte; FC is kept (R411). -/
def incResult (v : Byte) (f : Flags) : Byte × Flags :=
  let w := trunc8 (v.toNat + 1)
  (w, { f with z := w == 0, n := false, h := decide (lowNibble v = 0x0F) })

/-- DEC of a byte; FC is kept (R412). -/
def decResult (v : Byte) (f : Flags) : Byte × Flags :=
  let w := trunc8 ((v.toNat : Int) - 1)
  (w, { f with z := w == 0, n := true, h := decide (lowNibble v = 0x00) })

/-- DAA: the adjusted accumulator before narrowing, and the new FC (R413). -/
def daaAdjust (a : Byte) (f : Flags) : Int × Bool :=
  if f.n then
    ((a.toNat : Int) - (if f.c then 0x60 else 0) - (if f.h then 0x06 else 0), f.c)
  else
    let high := f.c || decide (a.toNat > 0x99)
    let low := f.h || decide (lowNibble a > 0x09)
    ((a.toNat : Int) + (if high then 0x60 else 0) + (if low then 0x06 else 0), high)

/-- DAA (R413). -/
def daaResult (a : Byte) (f : Flags) : Byte × Flags :=
  let (v, c) := daaAdjust a f
  (trunc8 v, { f with z := trunc8 v == 0, h := false, c := c })

/-- The flags of ADD HL,rr; FZ is kept (42_alu16.md R452). -/
def addHlResult (hl rr : Word) (f : Flags) : Word × Flags :=
  (trunc16 (hl.toNat + rr.toNat),
    { f with n := false, h := decide (hl.toNat % 4096 + rr.toNat % 4096 > 0x0FFF), c := decide (hl.toNat + rr.toNat > 0xFFFF) })

/-- SP plus a signed byte, and the flags of the unsigned sum of SP's low byte and the raw byte (42_alu16.md R453, 40_loads.md R323). -/
def addSpResult (sp : Word) (u : Byte) : Word × Flags :=
  (sp + u.signExtend 16,
    ⟨false, false, decide (sp.toNat % 16 + u.toNat % 16 > 0x0F), decide (sp.toNat % 256 + u.toNat > 0xFF)⟩)

/-- A bit as a byte, 0 or 1. -/
def bitByte (b : Bool) : Byte := if b then 1 else 0

/-- The result and the carry of a rotate, shift or swap, with FC as carry-in (44_bitops.md R551-R562). -/
def rotValue (op : RotOp) (v : Byte) (c : Bool) : Byte × Bool :=
  match op with
  | .rlc => ((v <<< 1) ||| bitByte (v.getLsbD 7), v.getLsbD 7)
  | .rrc => ((v >>> 1) ||| (bitByte (v.getLsbD 0) <<< 7), v.getLsbD 0)
  | .rl => ((v <<< 1) ||| bitByte c, v.getLsbD 7)
  | .rr => ((v >>> 1) ||| (bitByte c <<< 7), v.getLsbD 0)
  | .sla => (v <<< 1, v.getLsbD 7)
  | .sra => ((v >>> 1) ||| (v &&& 0x80), v.getLsbD 0)
  | .swap => (((v &&& 0x0F) <<< 4) ||| (v >>> 4), false)
  | .srl => (v >>> 1, v.getLsbD 0)

/-- An extended rotate or shift: FZ from the result (R555-R562). -/
def rotResult (op : RotOp) (v : Byte) (c : Bool) : Byte × Flags :=
  let (w, k) := rotValue op v c
  (w, ⟨w == 0, false, false, k⟩)

/-- An accumulator rotate: FZ is always cleared (R551-R554). -/
def rotAResult (op : RotOp) (v : Byte) (c : Bool) : Byte × Flags :=
  let (w, k) := rotValue op v c
  (w, ⟨false, false, false, k⟩)

/-- The flags of BIT b; FC is kept (R563). -/
def bitFlags (b : Fin 8) (v : Byte) (f : Flags) : Flags := { f with z := !v.getLsbD b.val, n := false, h := true }

end Sys2Proof.Machine
end

