-- ==== Sys2Proof/Machine/Ops.lean ====
section
/-! DEFINITION. The named operations over registers, interrupts, memory and the stack, and taking and leaving an exception (spec/10_state.md, 20_memory.md, 40_loads.md R340, R341, 45_system.md R601, R602, R620, 60_exceptions.md R700-R720). -/

namespace Sys2Proof.Machine

/-! ## Registers -/

/-- A general register (10_state.md R40). -/
def State.reg (s : State) (r : Reg8) : Byte :=
  match r with
  | .b => s.regs.b
  | .c => s.regs.c
  | .d => s.regs.d
  | .e => s.regs.e
  | .h => s.regs.h
  | .l => s.regs.l
  | .a => s.regs.a

/-- The state after writing a general register (R40). -/
def State.setReg (s : State) (r : Reg8) (v : Byte) : State :=
  match r with
  | .b => { s with regs := { s.regs with b := v } }
  | .c => { s with regs := { s.regs with c := v } }
  | .d => { s with regs := { s.regs with d := v } }
  | .e => { s with regs := { s.regs with e := v } }
  | .h => { s with regs := { s.regs with h := v } }
  | .l => { s with regs := { s.regs with l := v } }
  | .a => { s with regs := { s.regs with a := v } }

/-- The state after writing the flags (R42). -/
def State.setFlags (s : State) (f : Flags) : State := { s with regs := { s.regs with f := f } }

/-- The state after writing SP (R41). -/
def State.setSp (s : State) (v : Word) : State := { s with regs := { s.regs with sp := v } }

/-- The state after writing PC (R44). -/
def State.setPc (s : State) (v : Addr) : State := { s with regs := { s.regs with pc := v } }

/-- A pair of the table rp (R40, 30_encoding.md R204). -/
def State.pair (s : State) (p : Pair) : Word :=
  match p with
  | .bc => imm16 s.regs.c s.regs.b
  | .de => imm16 s.regs.e s.regs.d
  | .hl => imm16 s.regs.l s.regs.h
  | .sp => s.regs.sp

/-- The state after writing a pair, both halves (R40). -/
def State.setPair (s : State) (p : Pair) (v : Word) : State :=
  match p with
  | .bc => { s with regs := { s.regs with b := highByte v, c := lowByte v } }
  | .de => { s with regs := { s.regs with d := highByte v, e := lowByte v } }
  | .hl => { s with regs := { s.regs with h := highByte v, l := lowByte v } }
  | .sp => s.setSp v

/-- HL, the index pair (R40). -/
def State.hl (s : State) : Word := s.pair .hl

/-- A pair of the table rp2, AF with F's low nibble 0 (40_loads.md R342). -/
def State.stackPair (s : State) (p : StackPair) : Word :=
  match p with
  | .bc => s.pair .bc
  | .de => s.pair .de
  | .hl => s.pair .hl
  | .af => imm16 s.regs.f.toByte s.regs.a

/-- The state after writing a pair of rp2; the low nibble written to F is discarded (R343). -/
def State.setStackPair (s : State) (p : StackPair) (v : Word) : State :=
  match p with
  | .bc => s.setPair .bc v
  | .de => s.setPair .de v
  | .hl => s.setPair .hl v
  | .af => { s with regs := { s.regs with a := highByte v, f := Flags.ofByte (lowByte v) } }

/-- The instruction consumed `n` cycles: R603 returns the count and the model keeps it in State (log 5). -/
def State.took (s : State) (n : Nat) : State := { s with cycles := n }

/-! ## Interrupt lines (60_exceptions.md R700-R704) -/

/-- The bit of IF and IE, which is also the priority, 0 highest (R700). -/
inductive Line where
  | vblank | lcdStat | timer | serial | joypad
deriving DecidableEq, Repr

/-- A line's number (R700). -/
def Line.bit (line : Line) : Nat :=
  match line with
  | .vblank => 0
  | .lcdStat => 1
  | .timer => 2
  | .serial => 3
  | .joypad => 4

/-- VECTOR[line] (R700). -/
def Line.vector (line : Line) : Addr :=
  match line with
  | .vblank => 0x0040
  | .lcdStat => 0x0048
  | .timer => 0x0050
  | .serial => 0x0058
  | .joypad => 0x0060

/-- RaiseInt(line): IF[line] <- 1 (R702). -/
def raiseInt (line : Line) (s : State) : State := { s with ifl := s.ifl ||| ((1 : BitVec 5) <<< line.bit) }

/-- acknowledge(line): IF[line] <- 0 (R704). -/
def acknowledge (line : Line) (s : State) : State := { s with ifl := s.ifl &&& ~~~((1 : BitVec 5) <<< line.bit) }

/-- PEND = IE & IF & 0x1F (R703). -/
def State.pending (s : State) : BitVec 5 := s.ie.extractLsb' 0 5 &&& s.ifl

/-- The lowest-numbered line whose bit is set (R711). -/
def firstLine (pend : BitVec 5) : Option Line :=
  if pend.getLsbD 0 then some .vblank
  else if pend.getLsbD 1 then some .lcdStat
  else if pend.getLsbD 2 then some .timer
  else if pend.getLsbD 3 then some .serial
  else if pend.getLsbD 4 then some .joypad
  else none

/-! ## The I/O registers (20_memory.md R130) -/

/-- A register of the I/O window. -/
inductive IoReg where
  | p1 | div | tima | tma | tac | ifReg | lcdc | stat | scy | scx | ly | lyc | dma | bgp | obp0 | obp1 | wy | wx
deriving DecidableEq, Repr

/-- The register at offset `k` of the window 0xFF00-0xFF7F, if one answers (R130). -/
def ioRegAt (k : Nat) : Option IoReg :=
  match k with
  | 0x00 => some .p1
  | 0x04 => some .div
  | 0x05 => some .tima
  | 0x06 => some .tma
  | 0x07 => some .tac
  | 0x0F => some .ifReg
  | 0x40 => some .lcdc
  | 0x41 => some .stat
  | 0x42 => some .scy
  | 0x43 => some .scx
  | 0x44 => some .ly
  | 0x45 => some .lyc
  | 0x46 => some .dma
  | 0x47 => some .bgp
  | 0x48 => some .obp0
  | 0x49 => some .obp1
  | 0x4A => some .wy
  | 0x4B => some .wx
  | _ => none

/-- MODE's two bits (10_state.md R57). -/
def PpuMode.code (m : PpuMode) : Nat :=
  match m with
  | .hblank => 0
  | .vblank => 1
  | .oamScan => 2
  | .transfer => 3

/-- Bits 3..0 of P1 that the four directions drive, 1 = pressed (60_exceptions.md R801). -/
def Buttons.dirBits (b : Buttons) : Nat := b.right.toNat + 2 * b.left.toNat + 4 * b.up.toNat + 8 * b.down.toNat

/-- Bits 3..0 of P1 that the four action buttons drive, 1 = pressed (R801). -/
def Buttons.actionBits (b : Buttons) : Nat := b.a.toNat + 2 * b.b.toNat + 4 * b.select.toNat + 8 * b.start.toNat

/-- The low nibble of P1 with one group: cleared bits for its pressed buttons when the group is selected (R801). -/
def groupNibble (unselected : Bool) (bits : Nat) : Byte := if unselected then 0x0F else 0x0F &&& ~~~(BitVec.ofNat 8 bits)

/-- P1Read() (R801). -/
def p1Read (j : Joypad) : Byte :=
  0xC0 ||| (bitByte j.selButtons <<< 5) ||| (bitByte j.selDirs <<< 4) |||
    (groupNibble j.selDirs j.btn.dirBits &&& groupNibble j.selButtons j.btn.actionBits)

/-- STAT as read: bit 7, the stored bits 6..3, LYC_EQ, MODE (R130, 10_state.md R57). -/
def statRead (p : Ppu) : Byte :=
  BitVec.ofNat 8 (128 + 8 * p.statHi.toNat + 4 * (p.ly == p.lyc).toNat + p.mode.code)

/-- TAC as read (R130). -/
def tacRead (t : Timer) : Byte := BitVec.ofNat 8 (0xF8 + 4 * t.enable.toNat + t.sel.toNat)

/-- IF as read (R130). -/
def ifRead (ifl : BitVec 5) : Byte := BitVec.ofNat 8 (0xE0 + ifl.toNat)

/-- A read of an I/O register (R130). -/
def ioRead (s : State) (r : IoReg) : Byte :=
  match r with
  | .p1 => p1Read s.joypad
  | .div => s.timer.div
  | .tima => s.timer.tima
  | .tma => s.timer.tma
  | .tac => tacRead s.timer
  | .ifReg => ifRead s.ifl
  | .lcdc => s.ppu.lcdc
  | .stat => statRead s.ppu
  | .scy => s.ppu.scy
  | .scx => s.ppu.scx
  | .ly => s.ppu.ly
  | .lyc => s.ppu.lyc
  | .dma => s.ppu.dma
  | .bgp => s.ppu.bgp
  | .obp0 => s.ppu.obp0
  | .obp1 => s.ppu.obp1
  | .wy => s.ppu.wy
  | .wx => s.ppu.wx

/-! ## The bus (R100-R122) -/

/-- What answers a bus address: a byte of storage, the cartridge's ROM window, an I/O register, IE, or nothing. -/
inductive Device where
  | cell (r : Region) (i : Nat)
  | rom (n : Nat)
  | io (r : IoReg)
  | ie
  | unmapped
deriving DecidableEq, Repr

/-- The one device that answers an address (R120, R121, R131). -/
def resolve (c : Cart) (a : Addr) : Device :=
  let n := a.toNat
  if n < 0x8000 then .rom n
  else if n < 0xA000 then .cell .vram (n - 0x8000)
  else if n < 0xC000 then
    match c.ramOffset n with
    | some off => .cell .cartRam off
    | none => .unmapped
  else if n < 0xE000 then .cell .wram (n - 0xC000)
  else if n < 0xFE00 then .cell .wram (n - 0xE000)
  else if n < 0xFEA0 then .cell .oam (n - 0xFE00)
  else if n < 0xFF00 then .unmapped
  else if n < 0xFF10 ∨ (0xFF40 ≤ n ∧ n < 0xFF80) then
    match ioRegAt (n - 0xFF00) with
    | some r => .io r
    | none => .unmapped
  else if n < 0xFF40 then .cell .audio (n - 0xFF10)
  else if n < 0xFFFF then .cell .hram (n - 0xFF80)
  else .ie

/-- MemRead(addr, 1) (R110, R104). -/
def busRead (s : State) (a : Addr) : Byte :=
  match resolve s.cart a with
  | .cell r i => s.mem.read r i
  | .rom n => romRead s.cart s.mem n
  | .io r => ioRead s r
  | .ie => s.ie
  | .unmapped => Config.unmappedRead

/-- `k` bytes of the OAM DMA copy, from OAM index `i` on, in increasing order (R140). -/
def oamDmaFrom (base : Addr) (i k : Nat) (s : State) : State :=
  match k with
  | 0 => s
  | k + 1 =>
    oamDmaFrom base (i + 1) k { s with mem := s.mem.write .oam i (busRead s (base + BitVec.ofNat 16 i)) }

/-- A write of `v` to DMA: store it, then copy 160 bytes from v*0x100 into OAM (R140). -/
def oamDma (v : Byte) (s : State) : State :=
  oamDmaFrom (imm16 0 v) 0 160 { s with ppu := { s.ppu with dma := v } }

/-- A write to DIV, and STOP's reset of it: DIV and DIV_SUB are cleared (60_exceptions.md R761, 45_system.md R612). -/
def resetDiv (s : State) : State := { s with timer := { s.timer with div := 0, divSub := 0 } }

/-- A write to an I/O register (R130, R140). -/
def ioWrite (s : State) (r : IoReg) (v : Byte) : State :=
  match r with
  | .p1 => { s with joypad := { s.joypad with selButtons := v.getLsbD 5, selDirs := v.getLsbD 4 } }
  | .div => resetDiv s
  | .tima => { s with timer := { s.timer with tima := v } }
  | .tma => { s with timer := { s.timer with tma := v } }
  | .tac => { s with timer := { s.timer with enable := v.getLsbD 2, sel := v.extractLsb' 0 2 } }
  | .ifReg => { s with ifl := v.extractLsb' 0 5 }
  | .lcdc => { s with ppu := { s.ppu with lcdc := v } }
  | .stat => { s with ppu := { s.ppu with statHi := v.extractLsb' 3 4 } }
  | .scy => { s with ppu := { s.ppu with scy := v } }
  | .scx => { s with ppu := { s.ppu with scx := v } }
  | .ly => s
  | .lyc => { s with ppu := { s.ppu with lyc := v } }
  | .dma => oamDma v s
  | .bgp => { s with ppu := { s.ppu with bgp := v } }
  | .obp0 => { s with ppu := { s.ppu with obp0 := v } }
  | .obp1 => { s with ppu := { s.ppu with obp1 := v } }
  | .wy => { s with ppu := { s.ppu with wy := v } }
  | .wx => { s with ppu := { s.ppu with wx := v } }

/-- MemWrite(addr, 1, v) (R111, R104). -/
def busWrite (s : State) (a : Addr) (v : Byte) : State :=
  match resolve s.cart a with
  | .cell r i => { s with mem := s.mem.write r i v }
  | .rom n => { s with cart := s.cart.control n v }
  | .io r => ioWrite s r v
  | .ie => { s with ie := v }
  | .unmapped => s

/-- MemRead16(addr), low byte first (R102). -/
def busRead16 (s : State) (a : Addr) : Word := imm16 (busRead s a) (busRead s (a + 1))

/-- MemWrite16(addr, v), low byte first (R102). -/
def busWrite16 (s : State) (a : Addr) (v : Word) : State :=
  busWrite (busWrite s a (lowByte v)) (a + 1) (highByte v)

/-! ## The stack (40_loads.md R340, R341) -/

/-- Push16(v): SP falls by 2, then the low byte goes to SP and the high byte to SP + 1 (R340). -/
def push16 (s : State) (v : Word) : State := busWrite16 (s.setSp (s.regs.sp - 2)) (s.regs.sp - 2) v

/-- The value Pop16() returns (R341). -/
def popValue (s : State) : Word := busRead16 s s.regs.sp

/-- The state after Pop16(): SP rises by 2 (R341). -/
def popped (s : State) : State := s.setSp (s.regs.sp + 2)

/-! ## Fetching (45_system.md R601, R602) -/

/-- ApplyPending(): a staged EI or DI takes effect (R601). -/
def applyPending (s : State) : State :=
  match s.imePending with
  | .none => s
  | .set => { s with ime := true, imePending := .none }
  | .clear => { s with ime := false, imePending := .none }

/-- The byte Fetch8() returns (R602). -/
def fetchByte (s : State) : Byte := busRead s s.regs.pc

/-- The state after Fetch8(): PC advances, but not after the HALT repeat (R602). -/
def fetched (s : State) : State :=
  if s.haltRepeat then { s with haltRepeat := false } else s.setPc (s.regs.pc + 1)

/-- The instruction at PC, all its bytes fetched in order, and the state after those fetches (R602, R603; log 10).
R603's `addr`, the address of the opcode byte, is kept in State (log 6). -/
def fetchInstr (s : State) : Instr × State :=
  let op := fetchByte s
  let s1 := fetched { s with opAddr := s.regs.pc }
  match instrLength op with
  | 1 => (decodeBytes op 0 0, s1)
  | 2 => (decodeBytes op (fetchByte s1) 0, fetched s1)
  | _ => (decodeBytes op (fetchByte s1) (fetchByte (fetched s1)), fetched (fetched s1))

/-! ## Taking an exception and returning from one -/

/-- raise IllegalOpcode(op, addr): the one synchronous exception records itself in FAULT and locks the CPU;
no register but PC, which the fetch advanced, no flag and no memory changes (45_system.md R620). -/
def raiseIllegal (op : Byte) (s : State) : State :=
  { s with faultRec := .illegalOpcode op s.opAddr, run := .locked, cycles := 0 }

/-- Wake from HALT (60_exceptions.md R710, R720). -/
def wake (s : State) : State := if s.run = .halted then { s with run := .running } else s

/-- Dispatch(line), taking an interrupt: acknowledge, clear IME, push PC, jump to the vector, end a halt (R720).
The cycles it costs are added by `poll`. -/
def dispatchInt (line : Line) (s : State) : State :=
  let s1 := { acknowledge line s with ime := false }
  let s2 := push16 s1 s1.regs.pc
  wake (s2.setPc line.vector)

/-- Poll(), with its cycles added to the instruction's (R710, R722, 45_system.md R603). -/
def poll (s : State) : State :=
  let s1 := if s.pending = 0 then s else wake s
  match s.ime, firstLine s.pending with
  | true, some line => (dispatchInt line s1).took (s.cycles + Config.intDispatchCycles)
  | _, _ => s1

/-- Return from a handler: PC <- Pop16() and IME <- 1, directly (43_control.md R512, 60_exceptions.md R724). -/
def returnFromInt (s : State) : State := { (popped s).setPc (popValue s) with ime := true }

end Sys2Proof.Machine
end

