-- ==== Sys2Proof/Machine/Operands.lean ====
section
/-! DEFINITION. Every operand form of the instructions (spec/30_encoding.md R202-R205) and the shared operations the meanings call, one per rule of spec/40_loads.md to 45_system.md. -/

namespace Sys2Proof.Machine

/-! ## Operand forms -/

/-- Reading an entry of r8 (R203). -/
def readR8 (s : State) (t : R8) : Byte :=
  match t with
  | .reg r => s.reg r
  | .atHl => busRead s s.hl

/-- Writing an entry of r8 (R203). -/
def writeR8 (s : State) (t : R8) (v : Byte) : State :=
  match t with
  | .reg r => s.setReg r v
  | .atHl => busWrite s s.hl v

/-- An instruction's cycles by its r8 operand: a register, or memory at HL (R203). -/
def r8Cost (t : R8) (ofReg ofHl : Nat) : Nat :=
  match t with
  | .reg _ => ofReg
  | .atHl => ofHl

/-- cond(cc) (43_control.md R500). -/
def condHolds (f : Flags) (cc : Cond) : Bool :=
  match cc with
  | .nz => !f.z
  | .z => f.z
  | .nc => !f.c
  | .c => f.c

/-- The high-page address 0xFF00 + n (30_encoding.md R202). -/
def highPage (n : Byte) : Addr := imm16 n 0xFF

/-- The target of a relative jump: PC plus the sign-extended displacement byte (R202, 43_control.md R504). -/
def relTarget (pc : Addr) (u : Byte) : Addr := pc + u.signExtend 16

/-! ## Loads (40_loads.md) -/

/-- LD r,r' (R300). -/
def ldRegReg (dst src : Reg8) (s : State) : State := (s.setReg dst (s.reg src)).took 4

/-- LD r,(HL) (R301). -/
def ldRegAtHl (dst : Reg8) (s : State) : State := (s.setReg dst (busRead s s.hl)).took 8

/-- LD (HL),r (R302). -/
def ldAtHlReg (src : Reg8) (s : State) : State := (busWrite s s.hl (s.reg src)).took 8

/-- LD r,n8 (R303). -/
def ldRegN8 (dst : Reg8) (n : Byte) (s : State) : State := (s.setReg dst n).took 8

/-- LD A,(addr), in `k` cycles (R305, R307, R309, R311). -/
def ldAFrom (a : Addr) (k : Nat) (s : State) : State := (s.setReg .a (busRead s a)).took k

/-- LD (addr),A, in `k` cycles (R306, R308, R310, R312). -/
def ldAInto (a : Addr) (k : Nat) (s : State) : State := (busWrite s a s.regs.a).took k

/-- LD A,(HL+) and LD A,(HL-): HL changes by `d` after the read (R313, R314). -/
def ldAFromHlStep (d : Word) (s : State) : State :=
  ((s.setReg .a (busRead s s.hl)).setPair .hl (s.hl + d)).took 8

/-- LD (HL+),A and LD (HL-),A: HL changes by `d` after the write (R315, R316). -/
def ldAIntoHlStep (d : Word) (s : State) : State :=
  ((busWrite s s.hl s.regs.a).setPair .hl (s.hl + d)).took 8

/-- LD rr,n16 (R320). -/
def ldPairN16 (p : Pair) (n : Word) (s : State) : State := (s.setPair p n).took 12

/-- LD HL,SP+e8 (R323). -/
def ldHlSpPlus (u : Byte) (s : State) : State :=
  ((s.setPair .hl (addSpResult s.regs.sp u).1).setFlags (addSpResult s.regs.sp u).2).took 12

/-- PUSH rr (R342). -/
def pushPair (p : StackPair) (s : State) : State := (push16 s (s.stackPair p)).took 16

/-- POP rr (R343). -/
def popPair (p : StackPair) (s : State) : State := ((popped s).setStackPair p (popValue s)).took 12

/-! ## Arithmetic (41_alu8.md, 42_alu16.md) -/

/-- An ALU operation on A and an operand, in `k` cycles; CP's result is A itself (R400, R402). -/
def aluWith (op : AluOp) (v : Byte) (k : Nat) (s : State) : State :=
  ((s.setReg .a (aluResult op s.regs.a v s.regs.f.c).1).setFlags (aluResult op s.regs.a v s.regs.f.c).2).took k

/-- An ALU operation on r8 (R402). -/
def aluR8 (op : AluOp) (t : R8) (s : State) : State := aluWith op (readR8 s t) (r8Cost t 4 8) s

/-- An ALU operation on n8 (R402). -/
def aluN8 (op : AluOp) (n : Byte) (s : State) : State := aluWith op n 8 s

/-- INC r8 (R411). -/
def incR8 (t : R8) (s : State) : State :=
  ((writeR8 s t (incResult (readR8 s t) s.regs.f).1).setFlags (incResult (readR8 s t) s.regs.f).2).took (r8Cost t 4 12)

/-- DEC r8 (R412). -/
def decR8 (t : R8) (s : State) : State :=
  ((writeR8 s t (decResult (readR8 s t) s.regs.f).1).setFlags (decResult (readR8 s t) s.regs.f).2).took (r8Cost t 4 12)

/-- INC rr (R450). -/
def incPair (p : Pair) (s : State) : State := (s.setPair p (s.pair p + 1)).took 8

/-- DEC rr (R451). -/
def decPair (p : Pair) (s : State) : State := (s.setPair p (s.pair p - 1)).took 8

/-- ADD HL,rr (R452). -/
def addHl (p : Pair) (s : State) : State :=
  ((s.setPair .hl (addHlResult s.hl (s.pair p) s.regs.f).1).setFlags (addHlResult s.hl (s.pair p) s.regs.f).2).took 8

/-- ADD SP,e8 (R453). -/
def addSp (u : Byte) (s : State) : State :=
  ((s.setSp (addSpResult s.regs.sp u).1).setFlags (addSpResult s.regs.sp u).2).took 16

/-! ## Control transfer (43_control.md) -/

/-- A jump, in `k` cycles (R501, R503, R504). -/
def jumpTo (a : Addr) (k : Nat) (s : State) : State := (s.setPc a).took k

/-- JP cc,a16 (R502). -/
def jpCond (cc : Cond) (a : Addr) (s : State) : State :=
  if condHolds s.regs.f cc then jumpTo a 16 s else s.took 12

/-- JR cc,e8 (R505). -/
def jrCond (cc : Cond) (u : Byte) (s : State) : State :=
  if condHolds s.regs.f cc then jumpTo (relTarget s.regs.pc u) 12 s else s.took 8

/-- CALL a16 and RST: push PC, jump, in `k` cycles (R506, R510). -/
def callTo (a : Addr) (k : Nat) (s : State) : State := ((push16 s s.regs.pc).setPc a).took k

/-- CALL cc,a16 (R507). -/
def callCond (cc : Cond) (a : Addr) (s : State) : State :=
  if condHolds s.regs.f cc then callTo a 24 s else s.took 12

/-- RET, in `k` cycles (R508). -/
def retIn (k : Nat) (s : State) : State := ((popped s).setPc (popValue s)).took k

/-- RET cc (R509). -/
def retCond (cc : Cond) (s : State) : State := if condHolds s.regs.f cc then retIn 20 s else s.took 8

/-! ## Rotates, shifts and bits (44_bitops.md) -/

/-- RLCA, RRCA, RLA, RRA (R551-R554). -/
def rotA (op : RotOp) (s : State) : State :=
  ((s.setReg .a (rotAResult op s.regs.a s.regs.f.c).1).setFlags (rotAResult op s.regs.a s.regs.f.c).2).took 4

/-- An extended rotate or shift on r8 (R550, R555-R562). -/
def rotR8 (op : RotOp) (t : R8) (s : State) : State :=
  ((writeR8 s t (rotResult op (readR8 s t) s.regs.f.c).1).setFlags (rotResult op (readR8 s t) s.regs.f.c).2).took (r8Cost t 8 16)

/-- BIT b,r8 (R563). -/
def bitR8 (b : Fin 8) (t : R8) (s : State) : State :=
  (s.setFlags (bitFlags b (readR8 s t) s.regs.f)).took (r8Cost t 8 12)

/-- RES b,r8; the write happens even when the bit is clear (R564). -/
def resR8 (b : Fin 8) (t : R8) (s : State) : State :=
  (writeR8 s t (readR8 s t &&& ~~~((1 : Byte) <<< b.val))).took (r8Cost t 8 16)

/-- SET b,r8 (R565). -/
def setR8 (b : Fin 8) (t : R8) (s : State) : State :=
  (writeR8 s t (readR8 s t ||| ((1 : Byte) <<< b.val))).took (r8Cost t 8 16)

end Sys2Proof.Machine
end

