-- ==== Sys2Proof/Machine/Alu16.lean ====
section
/-! DEFINITION. 16-bit arithmetic (spec/42_alu16.md). One definition per instruction, named by its constructor. -/

namespace Sys2Proof.Machine

/-- INC BC (R450). -/
def execIncBc (s : State) : Result := .next (incPair .bc s)

/-- ADD HL,BC (R452). -/
def execAddHlBc (s : State) : Result := .next (addHl .bc s)

/-- DEC BC (R451). -/
def execDecBc (s : State) : Result := .next (decPair .bc s)

/-- INC DE (R450). -/
def execIncDe (s : State) : Result := .next (incPair .de s)

/-- ADD HL,DE (R452). -/
def execAddHlDe (s : State) : Result := .next (addHl .de s)

/-- DEC DE (R451). -/
def execDecDe (s : State) : Result := .next (decPair .de s)

/-- INC HL (R450). -/
def execIncHl (s : State) : Result := .next (incPair .hl s)

/-- ADD HL,HL (R452). -/
def execAddHlHl (s : State) : Result := .next (addHl .hl s)

/-- DEC HL (R451). -/
def execDecHl (s : State) : Result := .next (decPair .hl s)

/-- INC SP (R450). -/
def execIncSp (s : State) : Result := .next (incPair .sp s)

/-- ADD HL,SP (R452). -/
def execAddHlSp (s : State) : Result := .next (addHl .sp s)

/-- DEC SP (R451). -/
def execDecSp (s : State) : Result := .next (decPair .sp s)

/-- ADD SP,e8 (R453). -/
def execAddSpE8 (e : Int) (s : State) : Result := .next (addSp (e8Byte e) s)

end Sys2Proof.Machine
end

