-- ==== Sys2Proof/Machine/Alu8.lean ====
section
/-! DEFINITION. 8-bit arithmetic and logic (spec/41_alu8.md). One definition per instruction, named by its constructor. -/

namespace Sys2Proof.Machine

/-- INC B (R411). -/
def execIncB (s : State) : Result := .next (incR8 (.reg .b) s)

/-- DEC B (R412). -/
def execDecB (s : State) : Result := .next (decR8 (.reg .b) s)

/-- INC C (R411). -/
def execIncC (s : State) : Result := .next (incR8 (.reg .c) s)

/-- DEC C (R412). -/
def execDecC (s : State) : Result := .next (decR8 (.reg .c) s)

/-- INC D (R411). -/
def execIncD (s : State) : Result := .next (incR8 (.reg .d) s)

/-- DEC D (R412). -/
def execDecD (s : State) : Result := .next (decR8 (.reg .d) s)

/-- INC E (R411). -/
def execIncE (s : State) : Result := .next (incR8 (.reg .e) s)

/-- DEC E (R412). -/
def execDecE (s : State) : Result := .next (decR8 (.reg .e) s)

/-- INC H (R411). -/
def execIncH (s : State) : Result := .next (incR8 (.reg .h) s)

/-- DEC H (R412). -/
def execDecH (s : State) : Result := .next (decR8 (.reg .h) s)

/-- DAA (R413). -/
def execDaa (s : State) : Result :=
  .next (((s.setReg .a (daaResult s.regs.a s.regs.f).1).setFlags (daaResult s.regs.a s.regs.f).2).took 4)

/-- INC L (R411). -/
def execIncL (s : State) : Result := .next (incR8 (.reg .l) s)

/-- DEC L (R412). -/
def execDecL (s : State) : Result := .next (decR8 (.reg .l) s)

/-- CPL (R414). -/
def execCpl (s : State) : Result :=
  .next (((s.setReg .a (~~~s.regs.a)).setFlags { s.regs.f with n := true, h := true }).took 4)

/-- INC (HL) (R411). -/
def execIncAtHl (s : State) : Result := .next (incR8 .atHl s)

/-- DEC (HL) (R412). -/
def execDecAtHl (s : State) : Result := .next (decR8 .atHl s)

/-- SCF (R415). -/
def execScf (s : State) : Result :=
  .next ((s.setFlags { s.regs.f with n := false, h := false, c := true }).took 4)

/-- INC A (R411). -/
def execIncA (s : State) : Result := .next (incR8 (.reg .a) s)

/-- DEC A (R412). -/
def execDecA (s : State) : Result := .next (decR8 (.reg .a) s)

/-- CCF (R416). -/
def execCcf (s : State) : Result :=
  .next ((s.setFlags { s.regs.f with n := false, h := false, c := !s.regs.f.c }).took 4)

/-- ADD A,B (R403). -/
def execAddAB (s : State) : Result := .next (aluR8 .add (.reg .b) s)

/-- ADD A,C (R403). -/
def execAddAC (s : State) : Result := .next (aluR8 .add (.reg .c) s)

/-- ADD A,D (R403). -/
def execAddAD (s : State) : Result := .next (aluR8 .add (.reg .d) s)

/-- ADD A,E (R403). -/
def execAddAE (s : State) : Result := .next (aluR8 .add (.reg .e) s)

/-- ADD A,H (R403). -/
def execAddAH (s : State) : Result := .next (aluR8 .add (.reg .h) s)

/-- ADD A,L (R403). -/
def execAddAL (s : State) : Result := .next (aluR8 .add (.reg .l) s)

/-- ADD A,(HL) (R403). -/
def execAddAAtHl (s : State) : Result := .next (aluR8 .add .atHl s)

/-- ADD A,A (R403). -/
def execAddAA (s : State) : Result := .next (aluR8 .add (.reg .a) s)

/-- ADC A,B (R404). -/
def execAdcAB (s : State) : Result := .next (aluR8 .adc (.reg .b) s)

/-- ADC A,C (R404). -/
def execAdcAC (s : State) : Result := .next (aluR8 .adc (.reg .c) s)

/-- ADC A,D (R404). -/
def execAdcAD (s : State) : Result := .next (aluR8 .adc (.reg .d) s)

/-- ADC A,E (R404). -/
def execAdcAE (s : State) : Result := .next (aluR8 .adc (.reg .e) s)

/-- ADC A,H (R404). -/
def execAdcAH (s : State) : Result := .next (aluR8 .adc (.reg .h) s)

/-- ADC A,L (R404). -/
def execAdcAL (s : State) : Result := .next (aluR8 .adc (.reg .l) s)

/-- ADC A,(HL) (R404). -/
def execAdcAAtHl (s : State) : Result := .next (aluR8 .adc .atHl s)

/-- ADC A,A (R404). -/
def execAdcAA (s : State) : Result := .next (aluR8 .adc (.reg .a) s)

/-- SUB A,B (R405). -/
def execSubAB (s : State) : Result := .next (aluR8 .sub (.reg .b) s)

/-- SUB A,C (R405). -/
def execSubAC (s : State) : Result := .next (aluR8 .sub (.reg .c) s)

/-- SUB A,D (R405). -/
def execSubAD (s : State) : Result := .next (aluR8 .sub (.reg .d) s)

/-- SUB A,E (R405). -/
def execSubAE (s : State) : Result := .next (aluR8 .sub (.reg .e) s)

/-- SUB A,H (R405). -/
def execSubAH (s : State) : Result := .next (aluR8 .sub (.reg .h) s)

/-- SUB A,L (R405). -/
def execSubAL (s : State) : Result := .next (aluR8 .sub (.reg .l) s)

/-- SUB A,(HL) (R405). -/
def execSubAAtHl (s : State) : Result := .next (aluR8 .sub .atHl s)

/-- SUB A,A (R405). -/
def execSubAA (s : State) : Result := .next (aluR8 .sub (.reg .a) s)

/-- SBC A,B (R406). -/
def execSbcAB (s : State) : Result := .next (aluR8 .sbc (.reg .b) s)

/-- SBC A,C (R406). -/
def execSbcAC (s : State) : Result := .next (aluR8 .sbc (.reg .c) s)

/-- SBC A,D (R406). -/
def execSbcAD (s : State) : Result := .next (aluR8 .sbc (.reg .d) s)

/-- SBC A,E (R406). -/
def execSbcAE (s : State) : Result := .next (aluR8 .sbc (.reg .e) s)

/-- SBC A,H (R406). -/
def execSbcAH (s : State) : Result := .next (aluR8 .sbc (.reg .h) s)

/-- SBC A,L (R406). -/
def execSbcAL (s : State) : Result := .next (aluR8 .sbc (.reg .l) s)

/-- SBC A,(HL) (R406). -/
def execSbcAAtHl (s : State) : Result := .next (aluR8 .sbc .atHl s)

/-- SBC A,A (R406). -/
def execSbcAA (s : State) : Result := .next (aluR8 .sbc (.reg .a) s)

/-- AND A,B (R407). -/
def execAndAB (s : State) : Result := .next (aluR8 .and (.reg .b) s)

/-- AND A,C (R407). -/
def execAndAC (s : State) : Result := .next (aluR8 .and (.reg .c) s)

/-- AND A,D (R407). -/
def execAndAD (s : State) : Result := .next (aluR8 .and (.reg .d) s)

/-- AND A,E (R407). -/
def execAndAE (s : State) : Result := .next (aluR8 .and (.reg .e) s)

/-- AND A,H (R407). -/
def execAndAH (s : State) : Result := .next (aluR8 .and (.reg .h) s)

/-- AND A,L (R407). -/
def execAndAL (s : State) : Result := .next (aluR8 .and (.reg .l) s)

/-- AND A,(HL) (R407). -/
def execAndAAtHl (s : State) : Result := .next (aluR8 .and .atHl s)

/-- AND A,A (R407). -/
def execAndAA (s : State) : Result := .next (aluR8 .and (.reg .a) s)

/-- XOR A,B (R408). -/
def execXorAB (s : State) : Result := .next (aluR8 .xor (.reg .b) s)

/-- XOR A,C (R408). -/
def execXorAC (s : State) : Result := .next (aluR8 .xor (.reg .c) s)

/-- XOR A,D (R408). -/
def execXorAD (s : State) : Result := .next (aluR8 .xor (.reg .d) s)

/-- XOR A,E (R408). -/
def execXorAE (s : State) : Result := .next (aluR8 .xor (.reg .e) s)

/-- XOR A,H (R408). -/
def execXorAH (s : State) : Result := .next (aluR8 .xor (.reg .h) s)

/-- XOR A,L (R408). -/
def execXorAL (s : State) : Result := .next (aluR8 .xor (.reg .l) s)

/-- XOR A,(HL) (R408). -/
def execXorAAtHl (s : State) : Result := .next (aluR8 .xor .atHl s)

/-- XOR A,A (R408). -/
def execXorAA (s : State) : Result := .next (aluR8 .xor (.reg .a) s)

/-- OR A,B (R409). -/
def execOrAB (s : State) : Result := .next (aluR8 .or (.reg .b) s)

/-- OR A,C (R409). -/
def execOrAC (s : State) : Result := .next (aluR8 .or (.reg .c) s)

/-- OR A,D (R409). -/
def execOrAD (s : State) : Result := .next (aluR8 .or (.reg .d) s)

/-- OR A,E (R409). -/
def execOrAE (s : State) : Result := .next (aluR8 .or (.reg .e) s)

/-- OR A,H (R409). -/
def execOrAH (s : State) : Result := .next (aluR8 .or (.reg .h) s)

/-- OR A,L (R409). -/
def execOrAL (s : State) : Result := .next (aluR8 .or (.reg .l) s)

/-- OR A,(HL) (R409). -/
def execOrAAtHl (s : State) : Result := .next (aluR8 .or .atHl s)

/-- OR A,A (R409). -/
def execOrAA (s : State) : Result := .next (aluR8 .or (.reg .a) s)

/-- CP A,B (R410). -/
def execCpAB (s : State) : Result := .next (aluR8 .cp (.reg .b) s)

/-- CP A,C (R410). -/
def execCpAC (s : State) : Result := .next (aluR8 .cp (.reg .c) s)

/-- CP A,D (R410). -/
def execCpAD (s : State) : Result := .next (aluR8 .cp (.reg .d) s)

/-- CP A,E (R410). -/
def execCpAE (s : State) : Result := .next (aluR8 .cp (.reg .e) s)

/-- CP A,H (R410). -/
def execCpAH (s : State) : Result := .next (aluR8 .cp (.reg .h) s)

/-- CP A,L (R410). -/
def execCpAL (s : State) : Result := .next (aluR8 .cp (.reg .l) s)

/-- CP A,(HL) (R410). -/
def execCpAAtHl (s : State) : Result := .next (aluR8 .cp .atHl s)

/-- CP A,A (R410). -/
def execCpAA (s : State) : Result := .next (aluR8 .cp (.reg .a) s)

/-- ADD A,n8 (R403). -/
def execAddAN8 (n : Byte) (s : State) : Result := .next (aluN8 .add n s)

/-- ADC A,n8 (R404). -/
def execAdcAN8 (n : Byte) (s : State) : Result := .next (aluN8 .adc n s)

/-- SUB A,n8 (R405). -/
def execSubAN8 (n : Byte) (s : State) : Result := .next (aluN8 .sub n s)

/-- SBC A,n8 (R406). -/
def execSbcAN8 (n : Byte) (s : State) : Result := .next (aluN8 .sbc n s)

/-- AND A,n8 (R407). -/
def execAndAN8 (n : Byte) (s : State) : Result := .next (aluN8 .and n s)

/-- XOR A,n8 (R408). -/
def execXorAN8 (n : Byte) (s : State) : Result := .next (aluN8 .xor n s)

/-- OR A,n8 (R409). -/
def execOrAN8 (n : Byte) (s : State) : Result := .next (aluN8 .or n s)

/-- CP A,n8 (R410). -/
def execCpAN8 (n : Byte) (s : State) : Result := .next (aluN8 .cp n s)

end Sys2Proof.Machine
end

