-- ==== Sys2Proof/Machine/BitOps.lean ====
section
/-! DEFINITION. Rotates, shifts and bit operations (spec/44_bitops.md). One definition per instruction, named by its constructor. -/

namespace Sys2Proof.Machine

/-- RLCA (R551). -/
def execRlca (s : State) : Result := .next (rotA .rlc s)

/-- RRCA (R552). -/
def execRrca (s : State) : Result := .next (rotA .rrc s)

/-- RLA (R553). -/
def execRla (s : State) : Result := .next (rotA .rl s)

/-- RRA (R554). -/
def execRra (s : State) : Result := .next (rotA .rr s)

/-- RLC B (R555). -/
def execRlcB (s : State) : Result := .next (rotR8 .rlc (.reg .b) s)

/-- RLC C (R555). -/
def execRlcC (s : State) : Result := .next (rotR8 .rlc (.reg .c) s)

/-- RLC D (R555). -/
def execRlcD (s : State) : Result := .next (rotR8 .rlc (.reg .d) s)

/-- RLC E (R555). -/
def execRlcE (s : State) : Result := .next (rotR8 .rlc (.reg .e) s)

/-- RLC H (R555). -/
def execRlcH (s : State) : Result := .next (rotR8 .rlc (.reg .h) s)

/-- RLC L (R555). -/
def execRlcL (s : State) : Result := .next (rotR8 .rlc (.reg .l) s)

/-- RLC (HL) (R555). -/
def execRlcAtHl (s : State) : Result := .next (rotR8 .rlc .atHl s)

/-- RLC A (R555). -/
def execRlcA (s : State) : Result := .next (rotR8 .rlc (.reg .a) s)

/-- RRC B (R556). -/
def execRrcB (s : State) : Result := .next (rotR8 .rrc (.reg .b) s)

/-- RRC C (R556). -/
def execRrcC (s : State) : Result := .next (rotR8 .rrc (.reg .c) s)

/-- RRC D (R556). -/
def execRrcD (s : State) : Result := .next (rotR8 .rrc (.reg .d) s)

/-- RRC E (R556). -/
def execRrcE (s : State) : Result := .next (rotR8 .rrc (.reg .e) s)

/-- RRC H (R556). -/
def execRrcH (s : State) : Result := .next (rotR8 .rrc (.reg .h) s)

/-- RRC L (R556). -/
def execRrcL (s : State) : Result := .next (rotR8 .rrc (.reg .l) s)

/-- RRC (HL) (R556). -/
def execRrcAtHl (s : State) : Result := .next (rotR8 .rrc .atHl s)

/-- RRC A (R556). -/
def execRrcA (s : State) : Result := .next (rotR8 .rrc (.reg .a) s)

/-- RL B (R557). -/
def execRlB (s : State) : Result := .next (rotR8 .rl (.reg .b) s)

/-- RL C (R557). -/
def execRlC (s : State) : Result := .next (rotR8 .rl (.reg .c) s)

/-- RL D (R557). -/
def execRlD (s : State) : Result := .next (rotR8 .rl (.reg .d) s)

/-- RL E (R557). -/
def execRlE (s : State) : Result := .next (rotR8 .rl (.reg .e) s)

/-- RL H (R557). -/
def execRlH (s : State) : Result := .next (rotR8 .rl (.reg .h) s)

/-- RL L (R557). -/
def execRlL (s : State) : Result := .next (rotR8 .rl (.reg .l) s)

/-- RL (HL) (R557). -/
def execRlAtHl (s : State) : Result := .next (rotR8 .rl .atHl s)

/-- RL A (R557). -/
def execRlA (s : State) : Result := .next (rotR8 .rl (.reg .a) s)

/-- RR B (R558). -/
def execRrB (s : State) : Result := .next (rotR8 .rr (.reg .b) s)

/-- RR C (R558). -/
def execRrC (s : State) : Result := .next (rotR8 .rr (.reg .c) s)

/-- RR D (R558). -/
def execRrD (s : State) : Result := .next (rotR8 .rr (.reg .d) s)

/-- RR E (R558). -/
def execRrE (s : State) : Result := .next (rotR8 .rr (.reg .e) s)

/-- RR H (R558). -/
def execRrH (s : State) : Result := .next (rotR8 .rr (.reg .h) s)

/-- RR L (R558). -/
def execRrL (s : State) : Result := .next (rotR8 .rr (.reg .l) s)

/-- RR (HL) (R558). -/
def execRrAtHl (s : State) : Result := .next (rotR8 .rr .atHl s)

/-- RR A (R558). -/
def execRrA (s : State) : Result := .next (rotR8 .rr (.reg .a) s)

/-- SLA B (R559). -/
def execSlaB (s : State) : Result := .next (rotR8 .sla (.reg .b) s)

/-- SLA C (R559). -/
def execSlaC (s : State) : Result := .next (rotR8 .sla (.reg .c) s)

/-- SLA D (R559). -/
def execSlaD (s : State) : Result := .next (rotR8 .sla (.reg .d) s)

/-- SLA E (R559). -/
def execSlaE (s : State) : Result := .next (rotR8 .sla (.reg .e) s)

/-- SLA H (R559). -/
def execSlaH (s : State) : Result := .next (rotR8 .sla (.reg .h) s)

/-- SLA L (R559). -/
def execSlaL (s : State) : Result := .next (rotR8 .sla (.reg .l) s)

/-- SLA (HL) (R559). -/
def execSlaAtHl (s : State) : Result := .next (rotR8 .sla .atHl s)

/-- SLA A (R559). -/
def execSlaA (s : State) : Result := .next (rotR8 .sla (.reg .a) s)

/-- SRA B (R560). -/
def execSraB (s : State) : Result := .next (rotR8 .sra (.reg .b) s)

/-- SRA C (R560). -/
def execSraC (s : State) : Result := .next (rotR8 .sra (.reg .c) s)

/-- SRA D (R560). -/
def execSraD (s : State) : Result := .next (rotR8 .sra (.reg .d) s)

/-- SRA E (R560). -/
def execSraE (s : State) : Result := .next (rotR8 .sra (.reg .e) s)

/-- SRA H (R560). -/
def execSraH (s : State) : Result := .next (rotR8 .sra (.reg .h) s)

/-- SRA L (R560). -/
def execSraL (s : State) : Result := .next (rotR8 .sra (.reg .l) s)

/-- SRA (HL) (R560). -/
def execSraAtHl (s : State) : Result := .next (rotR8 .sra .atHl s)

/-- SRA A (R560). -/
def execSraA (s : State) : Result := .next (rotR8 .sra (.reg .a) s)

/-- SWAP B (R561). -/
def execSwapB (s : State) : Result := .next (rotR8 .swap (.reg .b) s)

/-- SWAP C (R561). -/
def execSwapC (s : State) : Result := .next (rotR8 .swap (.reg .c) s)

/-- SWAP D (R561). -/
def execSwapD (s : State) : Result := .next (rotR8 .swap (.reg .d) s)

/-- SWAP E (R561). -/
def execSwapE (s : State) : Result := .next (rotR8 .swap (.reg .e) s)

/-- SWAP H (R561). -/
def execSwapH (s : State) : Result := .next (rotR8 .swap (.reg .h) s)

/-- SWAP L (R561). -/
def execSwapL (s : State) : Result := .next (rotR8 .swap (.reg .l) s)

/-- SWAP (HL) (R561). -/
def execSwapAtHl (s : State) : Result := .next (rotR8 .swap .atHl s)

/-- SWAP A (R561). -/
def execSwapA (s : State) : Result := .next (rotR8 .swap (.reg .a) s)

/-- SRL B (R562). -/
def execSrlB (s : State) : Result := .next (rotR8 .srl (.reg .b) s)

/-- SRL C (R562). -/
def execSrlC (s : State) : Result := .next (rotR8 .srl (.reg .c) s)

/-- SRL D (R562). -/
def execSrlD (s : State) : Result := .next (rotR8 .srl (.reg .d) s)

/-- SRL E (R562). -/
def execSrlE (s : State) : Result := .next (rotR8 .srl (.reg .e) s)

/-- SRL H (R562). -/
def execSrlH (s : State) : Result := .next (rotR8 .srl (.reg .h) s)

/-- SRL L (R562). -/
def execSrlL (s : State) : Result := .next (rotR8 .srl (.reg .l) s)

/-- SRL (HL) (R562). -/
def execSrlAtHl (s : State) : Result := .next (rotR8 .srl .atHl s)

/-- SRL A (R562). -/
def execSrlA (s : State) : Result := .next (rotR8 .srl (.reg .a) s)

/-- BIT 0,B (R563). -/
def execBit0B (s : State) : Result := .next (bitR8 0 (.reg .b) s)

/-- BIT 0,C (R563). -/
def execBit0C (s : State) : Result := .next (bitR8 0 (.reg .c) s)

/-- BIT 0,D (R563). -/
def execBit0D (s : State) : Result := .next (bitR8 0 (.reg .d) s)

/-- BIT 0,E (R563). -/
def execBit0E (s : State) : Result := .next (bitR8 0 (.reg .e) s)

/-- BIT 0,H (R563). -/
def execBit0H (s : State) : Result := .next (bitR8 0 (.reg .h) s)

/-- BIT 0,L (R563). -/
def execBit0L (s : State) : Result := .next (bitR8 0 (.reg .l) s)

/-- BIT 0,(HL) (R563). -/
def execBit0AtHl (s : State) : Result := .next (bitR8 0 .atHl s)

/-- BIT 0,A (R563). -/
def execBit0A (s : State) : Result := .next (bitR8 0 (.reg .a) s)

/-- BIT 1,B (R563). -/
def execBit1B (s : State) : Result := .next (bitR8 1 (.reg .b) s)

/-- BIT 1,C (R563). -/
def execBit1C (s : State) : Result := .next (bitR8 1 (.reg .c) s)

/-- BIT 1,D (R563). -/
def execBit1D (s : State) : Result := .next (bitR8 1 (.reg .d) s)

/-- BIT 1,E (R563). -/
def execBit1E (s : State) : Result := .next (bitR8 1 (.reg .e) s)

/-- BIT 1,H (R563). -/
def execBit1H (s : State) : Result := .next (bitR8 1 (.reg .h) s)

/-- BIT 1,L (R563). -/
def execBit1L (s : State) : Result := .next (bitR8 1 (.reg .l) s)

/-- BIT 1,(HL) (R563). -/
def execBit1AtHl (s : State) : Result := .next (bitR8 1 .atHl s)

/-- BIT 1,A (R563). -/
def execBit1A (s : State) : Result := .next (bitR8 1 (.reg .a) s)

/-- BIT 2,B (R563). -/
def execBit2B (s : State) : Result := .next (bitR8 2 (.reg .b) s)

/-- BIT 2,C (R563). -/
def execBit2C (s : State) : Result := .next (bitR8 2 (.reg .c) s)

/-- BIT 2,D (R563). -/
def execBit2D (s : State) : Result := .next (bitR8 2 (.reg .d) s)

/-- BIT 2,E (R563). -/
def execBit2E (s : State) : Result := .next (bitR8 2 (.reg .e) s)

/-- BIT 2,H (R563). -/
def execBit2H (s : State) : Result := .next (bitR8 2 (.reg .h) s)

/-- BIT 2,L (R563). -/
def execBit2L (s : State) : Result := .next (bitR8 2 (.reg .l) s)

/-- BIT 2,(HL) (R563). -/
def execBit2AtHl (s : State) : Result := .next (bitR8 2 .atHl s)

/-- BIT 2,A (R563). -/
def execBit2A (s : State) : Result := .next (bitR8 2 (.reg .a) s)

/-- BIT 3,B (R563). -/
def execBit3B (s : State) : Result := .next (bitR8 3 (.reg .b) s)

/-- BIT 3,C (R563). -/
def execBit3C (s : State) : Result := .next (bitR8 3 (.reg .c) s)

/-- BIT 3,D (R563). -/
def execBit3D (s : State) : Result := .next (bitR8 3 (.reg .d) s)

/-- BIT 3,E (R563). -/
def execBit3E (s : State) : Result := .next (bitR8 3 (.reg .e) s)

/-- BIT 3,H (R563). -/
def execBit3H (s : State) : Result := .next (bitR8 3 (.reg .h) s)

/-- BIT 3,L (R563). -/
def execBit3L (s : State) : Result := .next (bitR8 3 (.reg .l) s)

/-- BIT 3,(HL) (R563). -/
def execBit3AtHl (s : State) : Result := .next (bitR8 3 .atHl s)

/-- BIT 3,A (R563). -/
def execBit3A (s : State) : Result := .next (bitR8 3 (.reg .a) s)

/-- BIT 4,B (R563). -/
def execBit4B (s : State) : Result := .next (bitR8 4 (.reg .b) s)

/-- BIT 4,C (R563). -/
def execBit4C (s : State) : Result := .next (bitR8 4 (.reg .c) s)

/-- BIT 4,D (R563). -/
def execBit4D (s : State) : Result := .next (bitR8 4 (.reg .d) s)

/-- BIT 4,E (R563). -/
def execBit4E (s : State) : Result := .next (bitR8 4 (.reg .e) s)

/-- BIT 4,H (R563). -/
def execBit4H (s : State) : Result := .next (bitR8 4 (.reg .h) s)

/-- BIT 4,L (R563). -/
def execBit4L (s : State) : Result := .next (bitR8 4 (.reg .l) s)

/-- BIT 4,(HL) (R563). -/
def execBit4AtHl (s : State) : Result := .next (bitR8 4 .atHl s)

/-- BIT 4,A (R563). -/
def execBit4A (s : State) : Result := .next (bitR8 4 (.reg .a) s)

/-- BIT 5,B (R563). -/
def execBit5B (s : State) : Result := .next (bitR8 5 (.reg .b) s)

/-- BIT 5,C (R563). -/
def execBit5C (s : State) : Result := .next (bitR8 5 (.reg .c) s)

/-- BIT 5,D (R563). -/
def execBit5D (s : State) : Result := .next (bitR8 5 (.reg .d) s)

/-- BIT 5,E (R563). -/
def execBit5E (s : State) : Result := .next (bitR8 5 (.reg .e) s)

/-- BIT 5,H (R563). -/
def execBit5H (s : State) : Result := .next (bitR8 5 (.reg .h) s)

/-- BIT 5,L (R563). -/
def execBit5L (s : State) : Result := .next (bitR8 5 (.reg .l) s)

/-- BIT 5,(HL) (R563). -/
def execBit5AtHl (s : State) : Result := .next (bitR8 5 .atHl s)

/-- BIT 5,A (R563). -/
def execBit5A (s : State) : Result := .next (bitR8 5 (.reg .a) s)

/-- BIT 6,B (R563). -/
def execBit6B (s : State) : Result := .next (bitR8 6 (.reg .b) s)

/-- BIT 6,C (R563). -/
def execBit6C (s : State) : Result := .next (bitR8 6 (.reg .c) s)

/-- BIT 6,D (R563). -/
def execBit6D (s : State) : Result := .next (bitR8 6 (.reg .d) s)

/-- BIT 6,E (R563). -/
def execBit6E (s : State) : Result := .next (bitR8 6 (.reg .e) s)

/-- BIT 6,H (R563). -/
def execBit6H (s : State) : Result := .next (bitR8 6 (.reg .h) s)

/-- BIT 6,L (R563). -/
def execBit6L (s : State) : Result := .next (bitR8 6 (.reg .l) s)

/-- BIT 6,(HL) (R563). -/
def execBit6AtHl (s : State) : Result := .next (bitR8 6 .atHl s)

/-- BIT 6,A (R563). -/
def execBit6A (s : State) : Result := .next (bitR8 6 (.reg .a) s)

/-- BIT 7,B (R563). -/
def execBit7B (s : State) : Result := .next (bitR8 7 (.reg .b) s)

/-- BIT 7,C (R563). -/
def execBit7C (s : State) : Result := .next (bitR8 7 (.reg .c) s)

/-- BIT 7,D (R563). -/
def execBit7D (s : State) : Result := .next (bitR8 7 (.reg .d) s)

/-- BIT 7,E (R563). -/
def execBit7E (s : State) : Result := .next (bitR8 7 (.reg .e) s)

/-- BIT 7,H (R563). -/
def execBit7H (s : State) : Result := .next (bitR8 7 (.reg .h) s)

/-- BIT 7,L (R563). -/
def execBit7L (s : State) : Result := .next (bitR8 7 (.reg .l) s)

/-- BIT 7,(HL) (R563). -/
def execBit7AtHl (s : State) : Result := .next (bitR8 7 .atHl s)

/-- BIT 7,A (R563). -/
def execBit7A (s : State) : Result := .next (bitR8 7 (.reg .a) s)

/-- RES 0,B (R564). -/
def execRes0B (s : State) : Result := .next (resR8 0 (.reg .b) s)

/-- RES 0,C (R564). -/
def execRes0C (s : State) : Result := .next (resR8 0 (.reg .c) s)

/-- RES 0,D (R564). -/
def execRes0D (s : State) : Result := .next (resR8 0 (.reg .d) s)

/-- RES 0,E (R564). -/
def execRes0E (s : State) : Result := .next (resR8 0 (.reg .e) s)

/-- RES 0,H (R564). -/
def execRes0H (s : State) : Result := .next (resR8 0 (.reg .h) s)

/-- RES 0,L (R564). -/
def execRes0L (s : State) : Result := .next (resR8 0 (.reg .l) s)

/-- RES 0,(HL) (R564). -/
def execRes0AtHl (s : State) : Result := .next (resR8 0 .atHl s)

/-- RES 0,A (R564). -/
def execRes0A (s : State) : Result := .next (resR8 0 (.reg .a) s)

/-- RES 1,B (R564). -/
def execRes1B (s : State) : Result := .next (resR8 1 (.reg .b) s)

/-- RES 1,C (R564). -/
def execRes1C (s : State) : Result := .next (resR8 1 (.reg .c) s)

/-- RES 1,D (R564). -/
def execRes1D (s : State) : Result := .next (resR8 1 (.reg .d) s)

/-- RES 1,E (R564). -/
def execRes1E (s : State) : Result := .next (resR8 1 (.reg .e) s)

/-- RES 1,H (R564). -/
def execRes1H (s : State) : Result := .next (resR8 1 (.reg .h) s)

/-- RES 1,L (R564). -/
def execRes1L (s : State) : Result := .next (resR8 1 (.reg .l) s)

/-- RES 1,(HL) (R564). -/
def execRes1AtHl (s : State) : Result := .next (resR8 1 .atHl s)

/-- RES 1,A (R564). -/
def execRes1A (s : State) : Result := .next (resR8 1 (.reg .a) s)

/-- RES 2,B (R564). -/
def execRes2B (s : State) : Result := .next (resR8 2 (.reg .b) s)

/-- RES 2,C (R564). -/
def execRes2C (s : State) : Result := .next (resR8 2 (.reg .c) s)

/-- RES 2,D (R564). -/
def execRes2D (s : State) : Result := .next (resR8 2 (.reg .d) s)

/-- RES 2,E (R564). -/
def execRes2E (s : State) : Result := .next (resR8 2 (.reg .e) s)

/-- RES 2,H (R564). -/
def execRes2H (s : State) : Result := .next (resR8 2 (.reg .h) s)

/-- RES 2,L (R564). -/
def execRes2L (s : State) : Result := .next (resR8 2 (.reg .l) s)

/-- RES 2,(HL) (R564). -/
def execRes2AtHl (s : State) : Result := .next (resR8 2 .atHl s)

/-- RES 2,A (R564). -/
def execRes2A (s : State) : Result := .next (resR8 2 (.reg .a) s)

/-- RES 3,B (R564). -/
def execRes3B (s : State) : Result := .next (resR8 3 (.reg .b) s)

/-- RES 3,C (R564). -/
def execRes3C (s : State) : Result := .next (resR8 3 (.reg .c) s)

/-- RES 3,D (R564). -/
def execRes3D (s : State) : Result := .next (resR8 3 (.reg .d) s)

/-- RES 3,E (R564). -/
def execRes3E (s : State) : Result := .next (resR8 3 (.reg .e) s)

/-- RES 3,H (R564). -/
def execRes3H (s : State) : Result := .next (resR8 3 (.reg .h) s)

/-- RES 3,L (R564). -/
def execRes3L (s : State) : Result := .next (resR8 3 (.reg .l) s)

/-- RES 3,(HL) (R564). -/
def execRes3AtHl (s : State) : Result := .next (resR8 3 .atHl s)

/-- RES 3,A (R564). -/
def execRes3A (s : State) : Result := .next (resR8 3 (.reg .a) s)

/-- RES 4,B (R564). -/
def execRes4B (s : State) : Result := .next (resR8 4 (.reg .b) s)

/-- RES 4,C (R564). -/
def execRes4C (s : State) : Result := .next (resR8 4 (.reg .c) s)

/-- RES 4,D (R564). -/
def execRes4D (s : State) : Result := .next (resR8 4 (.reg .d) s)

/-- RES 4,E (R564). -/
def execRes4E (s : State) : Result := .next (resR8 4 (.reg .e) s)

/-- RES 4,H (R564). -/
def execRes4H (s : State) : Result := .next (resR8 4 (.reg .h) s)

/-- RES 4,L (R564). -/
def execRes4L (s : State) : Result := .next (resR8 4 (.reg .l) s)

/-- RES 4,(HL) (R564). -/
def execRes4AtHl (s : State) : Result := .next (resR8 4 .atHl s)

/-- RES 4,A (R564). -/
def execRes4A (s : State) : Result := .next (resR8 4 (.reg .a) s)

/-- RES 5,B (R564). -/
def execRes5B (s : State) : Result := .next (resR8 5 (.reg .b) s)

/-- RES 5,C (R564). -/
def execRes5C (s : State) : Result := .next (resR8 5 (.reg .c) s)

/-- RES 5,D (R564). -/
def execRes5D (s : State) : Result := .next (resR8 5 (.reg .d) s)

/-- RES 5,E (R564). -/
def execRes5E (s : State) : Result := .next (resR8 5 (.reg .e) s)

/-- RES 5,H (R564). -/
def execRes5H (s : State) : Result := .next (resR8 5 (.reg .h) s)

/-- RES 5,L (R564). -/
def execRes5L (s : State) : Result := .next (resR8 5 (.reg .l) s)

/-- RES 5,(HL) (R564). -/
def execRes5AtHl (s : State) : Result := .next (resR8 5 .atHl s)

/-- RES 5,A (R564). -/
def execRes5A (s : State) : Result := .next (resR8 5 (.reg .a) s)

/-- RES 6,B (R564). -/
def execRes6B (s : State) : Result := .next (resR8 6 (.reg .b) s)

/-- RES 6,C (R564). -/
def execRes6C (s : State) : Result := .next (resR8 6 (.reg .c) s)

/-- RES 6,D (R564). -/
def execRes6D (s : State) : Result := .next (resR8 6 (.reg .d) s)

/-- RES 6,E (R564). -/
def execRes6E (s : State) : Result := .next (resR8 6 (.reg .e) s)

/-- RES 6,H (R564). -/
def execRes6H (s : State) : Result := .next (resR8 6 (.reg .h) s)

/-- RES 6,L (R564). -/
def execRes6L (s : State) : Result := .next (resR8 6 (.reg .l) s)

/-- RES 6,(HL) (R564). -/
def execRes6AtHl (s : State) : Result := .next (resR8 6 .atHl s)

/-- RES 6,A (R564). -/
def execRes6A (s : State) : Result := .next (resR8 6 (.reg .a) s)

/-- RES 7,B (R564). -/
def execRes7B (s : State) : Result := .next (resR8 7 (.reg .b) s)

/-- RES 7,C (R564). -/
def execRes7C (s : State) : Result := .next (resR8 7 (.reg .c) s)

/-- RES 7,D (R564). -/
def execRes7D (s : State) : Result := .next (resR8 7 (.reg .d) s)

/-- RES 7,E (R564). -/
def execRes7E (s : State) : Result := .next (resR8 7 (.reg .e) s)

/-- RES 7,H (R564). -/
def execRes7H (s : State) : Result := .next (resR8 7 (.reg .h) s)

/-- RES 7,L (R564). -/
def execRes7L (s : State) : Result := .next (resR8 7 (.reg .l) s)

/-- RES 7,(HL) (R564). -/
def execRes7AtHl (s : State) : Result := .next (resR8 7 .atHl s)

/-- RES 7,A (R564). -/
def execRes7A (s : State) : Result := .next (resR8 7 (.reg .a) s)

/-- SET 0,B (R565). -/
def execSet0B (s : State) : Result := .next (setR8 0 (.reg .b) s)

/-- SET 0,C (R565). -/
def execSet0C (s : State) : Result := .next (setR8 0 (.reg .c) s)

/-- SET 0,D (R565). -/
def execSet0D (s : State) : Result := .next (setR8 0 (.reg .d) s)

/-- SET 0,E (R565). -/
def execSet0E (s : State) : Result := .next (setR8 0 (.reg .e) s)

/-- SET 0,H (R565). -/
def execSet0H (s : State) : Result := .next (setR8 0 (.reg .h) s)

/-- SET 0,L (R565). -/
def execSet0L (s : State) : Result := .next (setR8 0 (.reg .l) s)

/-- SET 0,(HL) (R565). -/
def execSet0AtHl (s : State) : Result := .next (setR8 0 .atHl s)

/-- SET 0,A (R565). -/
def execSet0A (s : State) : Result := .next (setR8 0 (.reg .a) s)

/-- SET 1,B (R565). -/
def execSet1B (s : State) : Result := .next (setR8 1 (.reg .b) s)

/-- SET 1,C (R565). -/
def execSet1C (s : State) : Result := .next (setR8 1 (.reg .c) s)

/-- SET 1,D (R565). -/
def execSet1D (s : State) : Result := .next (setR8 1 (.reg .d) s)

/-- SET 1,E (R565). -/
def execSet1E (s : State) : Result := .next (setR8 1 (.reg .e) s)

/-- SET 1,H (R565). -/
def execSet1H (s : State) : Result := .next (setR8 1 (.reg .h) s)

/-- SET 1,L (R565). -/
def execSet1L (s : State) : Result := .next (setR8 1 (.reg .l) s)

/-- SET 1,(HL) (R565). -/
def execSet1AtHl (s : State) : Result := .next (setR8 1 .atHl s)

/-- SET 1,A (R565). -/
def execSet1A (s : State) : Result := .next (setR8 1 (.reg .a) s)

/-- SET 2,B (R565). -/
def execSet2B (s : State) : Result := .next (setR8 2 (.reg .b) s)

/-- SET 2,C (R565). -/
def execSet2C (s : State) : Result := .next (setR8 2 (.reg .c) s)

/-- SET 2,D (R565). -/
def execSet2D (s : State) : Result := .next (setR8 2 (.reg .d) s)

/-- SET 2,E (R565). -/
def execSet2E (s : State) : Result := .next (setR8 2 (.reg .e) s)

/-- SET 2,H (R565). -/
def execSet2H (s : State) : Result := .next (setR8 2 (.reg .h) s)

/-- SET 2,L (R565). -/
def execSet2L (s : State) : Result := .next (setR8 2 (.reg .l) s)

/-- SET 2,(HL) (R565). -/
def execSet2AtHl (s : State) : Result := .next (setR8 2 .atHl s)

/-- SET 2,A (R565). -/
def execSet2A (s : State) : Result := .next (setR8 2 (.reg .a) s)

/-- SET 3,B (R565). -/
def execSet3B (s : State) : Result := .next (setR8 3 (.reg .b) s)

/-- SET 3,C (R565). -/
def execSet3C (s : State) : Result := .next (setR8 3 (.reg .c) s)

/-- SET 3,D (R565). -/
def execSet3D (s : State) : Result := .next (setR8 3 (.reg .d) s)

/-- SET 3,E (R565). -/
def execSet3E (s : State) : Result := .next (setR8 3 (.reg .e) s)

/-- SET 3,H (R565). -/
def execSet3H (s : State) : Result := .next (setR8 3 (.reg .h) s)

/-- SET 3,L (R565). -/
def execSet3L (s : State) : Result := .next (setR8 3 (.reg .l) s)

/-- SET 3,(HL) (R565). -/
def execSet3AtHl (s : State) : Result := .next (setR8 3 .atHl s)

/-- SET 3,A (R565). -/
def execSet3A (s : State) : Result := .next (setR8 3 (.reg .a) s)

/-- SET 4,B (R565). -/
def execSet4B (s : State) : Result := .next (setR8 4 (.reg .b) s)

/-- SET 4,C (R565). -/
def execSet4C (s : State) : Result := .next (setR8 4 (.reg .c) s)

/-- SET 4,D (R565). -/
def execSet4D (s : State) : Result := .next (setR8 4 (.reg .d) s)

/-- SET 4,E (R565). -/
def execSet4E (s : State) : Result := .next (setR8 4 (.reg .e) s)

/-- SET 4,H (R565). -/
def execSet4H (s : State) : Result := .next (setR8 4 (.reg .h) s)

/-- SET 4,L (R565). -/
def execSet4L (s : State) : Result := .next (setR8 4 (.reg .l) s)

/-- SET 4,(HL) (R565). -/
def execSet4AtHl (s : State) : Result := .next (setR8 4 .atHl s)

/-- SET 4,A (R565). -/
def execSet4A (s : State) : Result := .next (setR8 4 (.reg .a) s)

/-- SET 5,B (R565). -/
def execSet5B (s : State) : Result := .next (setR8 5 (.reg .b) s)

/-- SET 5,C (R565). -/
def execSet5C (s : State) : Result := .next (setR8 5 (.reg .c) s)

/-- SET 5,D (R565). -/
def execSet5D (s : State) : Result := .next (setR8 5 (.reg .d) s)

/-- SET 5,E (R565). -/
def execSet5E (s : State) : Result := .next (setR8 5 (.reg .e) s)

/-- SET 5,H (R565). -/
def execSet5H (s : State) : Result := .next (setR8 5 (.reg .h) s)

/-- SET 5,L (R565). -/
def execSet5L (s : State) : Result := .next (setR8 5 (.reg .l) s)

/-- SET 5,(HL) (R565). -/
def execSet5AtHl (s : State) : Result := .next (setR8 5 .atHl s)

/-- SET 5,A (R565). -/
def execSet5A (s : State) : Result := .next (setR8 5 (.reg .a) s)

/-- SET 6,B (R565). -/
def execSet6B (s : State) : Result := .next (setR8 6 (.reg .b) s)

/-- SET 6,C (R565). -/
def execSet6C (s : State) : Result := .next (setR8 6 (.reg .c) s)

/-- SET 6,D (R565). -/
def execSet6D (s : State) : Result := .next (setR8 6 (.reg .d) s)

/-- SET 6,E (R565). -/
def execSet6E (s : State) : Result := .next (setR8 6 (.reg .e) s)

/-- SET 6,H (R565). -/
def execSet6H (s : State) : Result := .next (setR8 6 (.reg .h) s)

/-- SET 6,L (R565). -/
def execSet6L (s : State) : Result := .next (setR8 6 (.reg .l) s)

/-- SET 6,(HL) (R565). -/
def execSet6AtHl (s : State) : Result := .next (setR8 6 .atHl s)

/-- SET 6,A (R565). -/
def execSet6A (s : State) : Result := .next (setR8 6 (.reg .a) s)

/-- SET 7,B (R565). -/
def execSet7B (s : State) : Result := .next (setR8 7 (.reg .b) s)

/-- SET 7,C (R565). -/
def execSet7C (s : State) : Result := .next (setR8 7 (.reg .c) s)

/-- SET 7,D (R565). -/
def execSet7D (s : State) : Result := .next (setR8 7 (.reg .d) s)

/-- SET 7,E (R565). -/
def execSet7E (s : State) : Result := .next (setR8 7 (.reg .e) s)

/-- SET 7,H (R565). -/
def execSet7H (s : State) : Result := .next (setR8 7 (.reg .h) s)

/-- SET 7,L (R565). -/
def execSet7L (s : State) : Result := .next (setR8 7 (.reg .l) s)

/-- SET 7,(HL) (R565). -/
def execSet7AtHl (s : State) : Result := .next (setR8 7 .atHl s)

/-- SET 7,A (R565). -/
def execSet7A (s : State) : Result := .next (setR8 7 (.reg .a) s)

end Sys2Proof.Machine
end

