-- ==== Sys2Proof/Machine/Control.lean ====
section
/-! DEFINITION. Control transfer (spec/43_control.md). One definition per instruction, named by its constructor. -/

namespace Sys2Proof.Machine

/-- JR e8 (R504). -/
def execJrE8 (e : Int) (s : State) : Result := .next (jumpTo (relTarget s.regs.pc (e8Byte e)) 12 s)

/-- JR NZ,e8 (R505). -/
def execJrNzE8 (e : Int) (s : State) : Result := .next (jrCond .nz (e8Byte e) s)

/-- JR Z,e8 (R505). -/
def execJrZE8 (e : Int) (s : State) : Result := .next (jrCond .z (e8Byte e) s)

/-- JR NC,e8 (R505). -/
def execJrNcE8 (e : Int) (s : State) : Result := .next (jrCond .nc (e8Byte e) s)

/-- JR C,e8 (R505). -/
def execJrCE8 (e : Int) (s : State) : Result := .next (jrCond .c (e8Byte e) s)

/-- RET NZ (R509). -/
def execRetNz (s : State) : Result := .next (retCond .nz s)

/-- JP NZ,a16 (R502). -/
def execJpNzA16 (a : Addr) (s : State) : Result := .next (jpCond .nz a s)

/-- JP a16 (R501). -/
def execJpA16 (a : Addr) (s : State) : Result := .next (jumpTo a 16 s)

/-- CALL NZ,a16 (R507). -/
def execCallNzA16 (a : Addr) (s : State) : Result := .next (callCond .nz a s)

/-- RST 0x00 (R510). -/
def execRst00 (s : State) : Result := .next (callTo 0x0000 16 s)

/-- RET Z (R509). -/
def execRetZ (s : State) : Result := .next (retCond .z s)

/-- RET (R508). -/
def execRet (s : State) : Result := .next (retIn 16 s)

/-- JP Z,a16 (R502). -/
def execJpZA16 (a : Addr) (s : State) : Result := .next (jpCond .z a s)

/-- CALL Z,a16 (R507). -/
def execCallZA16 (a : Addr) (s : State) : Result := .next (callCond .z a s)

/-- CALL a16 (R506). -/
def execCallA16 (a : Addr) (s : State) : Result := .next (callTo a 24 s)

/-- RST 0x08 (R510). -/
def execRst08 (s : State) : Result := .next (callTo 0x0008 16 s)

/-- RET NC (R509). -/
def execRetNc (s : State) : Result := .next (retCond .nc s)

/-- JP NC,a16 (R502). -/
def execJpNcA16 (a : Addr) (s : State) : Result := .next (jpCond .nc a s)

/-- CALL NC,a16 (R507). -/
def execCallNcA16 (a : Addr) (s : State) : Result := .next (callCond .nc a s)

/-- RST 0x10 (R510). -/
def execRst10 (s : State) : Result := .next (callTo 0x0010 16 s)

/-- RET C (R509). -/
def execRetC (s : State) : Result := .next (retCond .c s)

/-- RETI (R512). -/
def execReti (s : State) : Result := .next ((returnFromInt s).took 16)

/-- JP C,a16 (R502). -/
def execJpCA16 (a : Addr) (s : State) : Result := .next (jpCond .c a s)

/-- CALL C,a16 (R507). -/
def execCallCA16 (a : Addr) (s : State) : Result := .next (callCond .c a s)

/-- RST 0x18 (R510). -/
def execRst18 (s : State) : Result := .next (callTo 0x0018 16 s)

/-- RST 0x20 (R510). -/
def execRst20 (s : State) : Result := .next (callTo 0x0020 16 s)

/-- JP HL (R503). -/
def execJpHl (s : State) : Result := .next (jumpTo s.hl 4 s)

/-- RST 0x28 (R510). -/
def execRst28 (s : State) : Result := .next (callTo 0x0028 16 s)

/-- RST 0x30 (R510). -/
def execRst30 (s : State) : Result := .next (callTo 0x0030 16 s)

/-- RST 0x38 (R510). -/
def execRst38 (s : State) : Result := .next (callTo 0x0038 16 s)

end Sys2Proof.Machine
end

