-- ==== Sys2Proof/Machine/Loads.lean ====
section
/-! DEFINITION. The 8-bit and 16-bit loads and the stack (spec/40_loads.md). One definition per instruction, named by its constructor. -/

namespace Sys2Proof.Machine

/-- LD BC,n16 (R320). -/
def execLdBcN16 (n : Word) (s : State) : Result := .next (ldPairN16 .bc n s)

/-- LD (BC),A (R306). -/
def execLdAtBcA (s : State) : Result := .next (ldAInto (s.pair .bc) 8 s)

/-- LD B,n8 (R303). -/
def execLdBN8 (n : Byte) (s : State) : Result := .next (ldRegN8 .b n s)

/-- LD (a16),SP (R321). -/
def execLdAtA16Sp (a : Addr) (s : State) : Result := .next ((busWrite16 s a s.regs.sp).took 20)

/-- LD A,(BC) (R305). -/
def execLdAAtBc (s : State) : Result := .next (ldAFrom (s.pair .bc) 8 s)

/-- LD C,n8 (R303). -/
def execLdCN8 (n : Byte) (s : State) : Result := .next (ldRegN8 .c n s)

/-- LD DE,n16 (R320). -/
def execLdDeN16 (n : Word) (s : State) : Result := .next (ldPairN16 .de n s)

/-- LD (DE),A (R306). -/
def execLdAtDeA (s : State) : Result := .next (ldAInto (s.pair .de) 8 s)

/-- LD D,n8 (R303). -/
def execLdDN8 (n : Byte) (s : State) : Result := .next (ldRegN8 .d n s)

/-- LD A,(DE) (R305). -/
def execLdAAtDe (s : State) : Result := .next (ldAFrom (s.pair .de) 8 s)

/-- LD E,n8 (R303). -/
def execLdEN8 (n : Byte) (s : State) : Result := .next (ldRegN8 .e n s)

/-- LD HL,n16 (R320). -/
def execLdHlN16 (n : Word) (s : State) : Result := .next (ldPairN16 .hl n s)

/-- LD (HL+),A (R315). -/
def execLdAtHlIncA (s : State) : Result := .next (ldAIntoHlStep 1 s)

/-- LD H,n8 (R303). -/
def execLdHN8 (n : Byte) (s : State) : Result := .next (ldRegN8 .h n s)

/-- LD A,(HL+) (R313). -/
def execLdAAtHlInc (s : State) : Result := .next (ldAFromHlStep 1 s)

/-- LD L,n8 (R303). -/
def execLdLN8 (n : Byte) (s : State) : Result := .next (ldRegN8 .l n s)

/-- LD SP,n16 (R320). -/
def execLdSpN16 (n : Word) (s : State) : Result := .next (ldPairN16 .sp n s)

/-- LD (HL-),A (R316). -/
def execLdAtHlDecA (s : State) : Result := .next (ldAIntoHlStep (-1) s)

/-- LD (HL),n8 (R304). -/
def execLdAtHlN8 (n : Byte) (s : State) : Result := .next ((busWrite s s.hl n).took 12)

/-- LD A,(HL-) (R314). -/
def execLdAAtHlDec (s : State) : Result := .next (ldAFromHlStep (-1) s)

/-- LD A,n8 (R303). -/
def execLdAN8 (n : Byte) (s : State) : Result := .next (ldRegN8 .a n s)

/-- LD B,B (R300). -/
def execLdBB (s : State) : Result := .next (ldRegReg .b .b s)

/-- LD B,C (R300). -/
def execLdBC (s : State) : Result := .next (ldRegReg .b .c s)

/-- LD B,D (R300). -/
def execLdBD (s : State) : Result := .next (ldRegReg .b .d s)

/-- LD B,E (R300). -/
def execLdBE (s : State) : Result := .next (ldRegReg .b .e s)

/-- LD B,H (R300). -/
def execLdBH (s : State) : Result := .next (ldRegReg .b .h s)

/-- LD B,L (R300). -/
def execLdBL (s : State) : Result := .next (ldRegReg .b .l s)

/-- LD B,(HL) (R301). -/
def execLdBAtHl (s : State) : Result := .next (ldRegAtHl .b s)

/-- LD B,A (R300). -/
def execLdBA (s : State) : Result := .next (ldRegReg .b .a s)

/-- LD C,B (R300). -/
def execLdCB (s : State) : Result := .next (ldRegReg .c .b s)

/-- LD C,C (R300). -/
def execLdCC (s : State) : Result := .next (ldRegReg .c .c s)

/-- LD C,D (R300). -/
def execLdCD (s : State) : Result := .next (ldRegReg .c .d s)

/-- LD C,E (R300). -/
def execLdCE (s : State) : Result := .next (ldRegReg .c .e s)

/-- LD C,H (R300). -/
def execLdCH (s : State) : Result := .next (ldRegReg .c .h s)

/-- LD C,L (R300). -/
def execLdCL (s : State) : Result := .next (ldRegReg .c .l s)

/-- LD C,(HL) (R301). -/
def execLdCAtHl (s : State) : Result := .next (ldRegAtHl .c s)

/-- LD C,A (R300). -/
def execLdCA (s : State) : Result := .next (ldRegReg .c .a s)

/-- LD D,B (R300). -/
def execLdDB (s : State) : Result := .next (ldRegReg .d .b s)

/-- LD D,C (R300). -/
def execLdDC (s : State) : Result := .next (ldRegReg .d .c s)

/-- LD D,D (R300). -/
def execLdDD (s : State) : Result := .next (ldRegReg .d .d s)

/-- LD D,E (R300). -/
def execLdDE (s : State) : Result := .next (ldRegReg .d .e s)

/-- LD D,H (R300). -/
def execLdDH (s : State) : Result := .next (ldRegReg .d .h s)

/-- LD D,L (R300). -/
def execLdDL (s : State) : Result := .next (ldRegReg .d .l s)

/-- LD D,(HL) (R301). -/
def execLdDAtHl (s : State) : Result := .next (ldRegAtHl .d s)

/-- LD D,A (R300). -/
def execLdDA (s : State) : Result := .next (ldRegReg .d .a s)

/-- LD E,B (R300). -/
def execLdEB (s : State) : Result := .next (ldRegReg .e .b s)

/-- LD E,C (R300). -/
def execLdEC (s : State) : Result := .next (ldRegReg .e .c s)

/-- LD E,D (R300). -/
def execLdED (s : State) : Result := .next (ldRegReg .e .d s)

/-- LD E,E (R300). -/
def execLdEE (s : State) : Result := .next (ldRegReg .e .e s)

/-- LD E,H (R300). -/
def execLdEH (s : State) : Result := .next (ldRegReg .e .h s)

/-- LD E,L (R300). -/
def execLdEL (s : State) : Result := .next (ldRegReg .e .l s)

/-- LD E,(HL) (R301). -/
def execLdEAtHl (s : State) : Result := .next (ldRegAtHl .e s)

/-- LD E,A (R300). -/
def execLdEA (s : State) : Result := .next (ldRegReg .e .a s)

/-- LD H,B (R300). -/
def execLdHB (s : State) : Result := .next (ldRegReg .h .b s)

/-- LD H,C (R300). -/
def execLdHC (s : State) : Result := .next (ldRegReg .h .c s)

/-- LD H,D (R300). -/
def execLdHD (s : State) : Result := .next (ldRegReg .h .d s)

/-- LD H,E (R300). -/
def execLdHE (s : State) : Result := .next (ldRegReg .h .e s)

/-- LD H,H (R300). -/
def execLdHH (s : State) : Result := .next (ldRegReg .h .h s)

/-- LD H,L (R300). -/
def execLdHL (s : State) : Result := .next (ldRegReg .h .l s)

/-- LD H,(HL) (R301). -/
def execLdHAtHl (s : State) : Result := .next (ldRegAtHl .h s)

/-- LD H,A (R300). -/
def execLdHA (s : State) : Result := .next (ldRegReg .h .a s)

/-- LD L,B (R300). -/
def execLdLB (s : State) : Result := .next (ldRegReg .l .b s)

/-- LD L,C (R300). -/
def execLdLC (s : State) : Result := .next (ldRegReg .l .c s)

/-- LD L,D (R300). -/
def execLdLD (s : State) : Result := .next (ldRegReg .l .d s)

/-- LD L,E (R300). -/
def execLdLE (s : State) : Result := .next (ldRegReg .l .e s)

/-- LD L,H (R300). -/
def execLdLH (s : State) : Result := .next (ldRegReg .l .h s)

/-- LD L,L (R300). -/
def execLdLL (s : State) : Result := .next (ldRegReg .l .l s)

/-- LD L,(HL) (R301). -/
def execLdLAtHl (s : State) : Result := .next (ldRegAtHl .l s)

/-- LD L,A (R300). -/
def execLdLA (s : State) : Result := .next (ldRegReg .l .a s)

/-- LD (HL),B (R302). -/
def execLdAtHlB (s : State) : Result := .next (ldAtHlReg .b s)

/-- LD (HL),C (R302). -/
def execLdAtHlC (s : State) : Result := .next (ldAtHlReg .c s)

/-- LD (HL),D (R302). -/
def execLdAtHlD (s : State) : Result := .next (ldAtHlReg .d s)

/-- LD (HL),E (R302). -/
def execLdAtHlE (s : State) : Result := .next (ldAtHlReg .e s)

/-- LD (HL),H (R302). -/
def execLdAtHlH (s : State) : Result := .next (ldAtHlReg .h s)

/-- LD (HL),L (R302). -/
def execLdAtHlL (s : State) : Result := .next (ldAtHlReg .l s)

/-- LD (HL),A (R302). -/
def execLdAtHlA (s : State) : Result := .next (ldAtHlReg .a s)

/-- LD A,B (R300). -/
def execLdAB (s : State) : Result := .next (ldRegReg .a .b s)

/-- LD A,C (R300). -/
def execLdAC (s : State) : Result := .next (ldRegReg .a .c s)

/-- LD A,D (R300). -/
def execLdAD (s : State) : Result := .next (ldRegReg .a .d s)

/-- LD A,E (R300). -/
def execLdAE (s : State) : Result := .next (ldRegReg .a .e s)

/-- LD A,H (R300). -/
def execLdAH (s : State) : Result := .next (ldRegReg .a .h s)

/-- LD A,L (R300). -/
def execLdAL (s : State) : Result := .next (ldRegReg .a .l s)

/-- LD A,(HL) (R301). -/
def execLdAAtHl (s : State) : Result := .next (ldRegAtHl .a s)

/-- LD A,A (R300). -/
def execLdAA (s : State) : Result := .next (ldRegReg .a .a s)

/-- POP BC (R343). -/
def execPopBc (s : State) : Result := .next (popPair .bc s)

/-- PUSH BC (R342). -/
def execPushBc (s : State) : Result := .next (pushPair .bc s)

/-- POP DE (R343). -/
def execPopDe (s : State) : Result := .next (popPair .de s)

/-- PUSH DE (R342). -/
def execPushDe (s : State) : Result := .next (pushPair .de s)

/-- LDH (a8),A (R310). -/
def execLdhAtA8A (a : Byte) (s : State) : Result := .next (ldAInto (highPage a) 12 s)

/-- POP HL (R343). -/
def execPopHl (s : State) : Result := .next (popPair .hl s)

/-- LD (C),A (R312). -/
def execLdAtCA (s : State) : Result := .next (ldAInto (highPage s.regs.c) 8 s)

/-- PUSH HL (R342). -/
def execPushHl (s : State) : Result := .next (pushPair .hl s)

/-- LD (a16),A (R308). -/
def execLdAtA16A (a : Addr) (s : State) : Result := .next (ldAInto a 16 s)

/-- LDH A,(a8) (R309). -/
def execLdhAAtA8 (a : Byte) (s : State) : Result := .next (ldAFrom (highPage a) 12 s)

/-- POP AF (R343). -/
def execPopAf (s : State) : Result := .next (popPair .af s)

/-- LD A,(C) (R311). -/
def execLdAAtC (s : State) : Result := .next (ldAFrom (highPage s.regs.c) 8 s)

/-- PUSH AF (R342). -/
def execPushAf (s : State) : Result := .next (pushPair .af s)

/-- LD HL,SP+e8 (R323). -/
def execLdHlSpE8 (e : Int) (s : State) : Result := .next (ldHlSpPlus (e8Byte e) s)

/-- LD SP,HL (R322). -/
def execLdSpHl (s : State) : Result := .next ((s.setSp s.hl).took 8)

/-- LD A,(a16) (R307). -/
def execLdAAtA16 (a : Addr) (s : State) : Result := .next (ldAFrom a 16 s)

end Sys2Proof.Machine
end

