-- ==== Sys2Proof/Machine/System.lean ====
section
/-! DEFINITION. The system instructions and the illegal opcodes (spec/45_system.md). One definition per instruction, named by its constructor. -/

namespace Sys2Proof.Machine

/-- NOP (R604). -/
def execNop (s : State) : Result := .next (s.took 4)

/-- STOP (R612); the second byte is ignored. -/
def execStop (_ign : Byte) (s : State) : Result :=
  .next (({ resetDiv s with run := .stopped }).took 4)

/-- HALT (R610), with the halt repeat of R611. -/
def execHalt (s : State) : Result :=
  if Config.haltBug && !s.ime && s.pending != 0 then .next (({ s with haltRepeat := true }).took 4)
  else .next (({ s with run := .halted }).took 4)

/-- Illegal opcode 0xD3 (R620). -/
def execIllegalD3 (s : State) : Result := .next (raiseIllegal 0xD3 s)

/-- Illegal opcode 0xDB (R620). -/
def execIllegalDB (s : State) : Result := .next (raiseIllegal 0xDB s)

/-- Illegal opcode 0xDD (R620). -/
def execIllegalDD (s : State) : Result := .next (raiseIllegal 0xDD s)

/-- Illegal opcode 0xE3 (R620). -/
def execIllegalE3 (s : State) : Result := .next (raiseIllegal 0xE3 s)

/-- Illegal opcode 0xE4 (R620). -/
def execIllegalE4 (s : State) : Result := .next (raiseIllegal 0xE4 s)

/-- Illegal opcode 0xEB (R620). -/
def execIllegalEB (s : State) : Result := .next (raiseIllegal 0xEB s)

/-- Illegal opcode 0xEC (R620). -/
def execIllegalEC (s : State) : Result := .next (raiseIllegal 0xEC s)

/-- Illegal opcode 0xED (R620). -/
def execIllegalED (s : State) : Result := .next (raiseIllegal 0xED s)

/-- DI (R605); IME itself is unchanged. -/
def execDi (s : State) : Result := .next (({ s with imePending := .clear }).took 4)

/-- Illegal opcode 0xF4 (R620). -/
def execIllegalF4 (s : State) : Result := .next (raiseIllegal 0xF4 s)

/-- EI (R606); IME itself is unchanged. -/
def execEi (s : State) : Result := .next (({ s with imePending := .set }).took 4)

/-- Illegal opcode 0xFC (R620). -/
def execIllegalFC (s : State) : Result := .next (raiseIllegal 0xFC s)

/-- Illegal opcode 0xFD (R620). -/
def execIllegalFD (s : State) : Result := .next (raiseIllegal 0xFD s)

end Sys2Proof.Machine
end

