-- ==== Sys2Proof/Machine/HostSide.lean ====
section
/-! DEFINITION. The host's interface (spec/60_exceptions.md R800, R802, spec/70_reset_and_hazards.md R900): buttons, load, observation, and placing a word where the next fetch reads. -/

namespace Sys2Proof.Machine

/-- BTN[k] (10_state.md R63). -/
def Buttons.get (b : Buttons) (k : Button) : Bool :=
  match k with
  | .right => b.right
  | .left => b.left
  | .up => b.up
  | .down => b.down
  | .a => b.a
  | .b => b.b
  | .select => b.select
  | .start => b.start

/-- The buttons with one of them set. -/
def Buttons.put (b : Buttons) (k : Button) (v : Bool) : Buttons :=
  match k with
  | .right => { b with right := v }
  | .left => { b with left := v }
  | .up => { b with up := v }
  | .down => { b with down := v }
  | .a => { b with a := v }
  | .b => { b with b := v }
  | .select => { b with select := v }
  | .start => { b with start := v }

/-- The state with one button set. -/
def State.setBtn (s : State) (k : Button) (v : Bool) : State :=
  { s with joypad := { s.joypad with btn := s.joypad.btn.put k v } }

/-- A press ends STOPPED (45_system.md R613). -/
def leaveStop (s : State) : State := if s.run = .stopped then { s with run := .running } else s

/-- Press(k): a rising edge raises the Joypad line and ends STOPPED (60_exceptions.md R802, 45_system.md R613). -/
def press (k : Button) (s : State) : State :=
  if s.joypad.btn.get k then s else leaveStop (raiseInt .joypad (s.setBtn k true))

/-- Release(k): BTN[k] <- 0, nothing else (R800). -/
def release (k : Button) (s : State) : State := s.setBtn k false

/-- One move of the host (R800). -/
def hostMove (s : State) (h : HostMove) : State :=
  match h with
  | .press k => press k s
  | .release k => release k s

/-- The host's moves before this tick: the first batch of `hostMoves`, which is taken from it (log 7). -/
def hostTurn (s : State) : State :=
  match s.hostMoves with
  | [] => s
  | batch :: rest => batch.foldl hostMove { s with hostMoves := rest }

/-- Load(CART), with INIT_MEM and the first content of FB, both open, as arguments (70_reset_and_hazards.md R900, R916). -/
def load (image : List Byte) (init : Memory) (fb : List (List Argb)) : Except LoadRefusal State :=
  match cartCheck image with
  | .error r => .error r
  | .ok cart => .ok (State.resetWith cart { init with cartRom := Cells.ofBytes 0 image } fb)

/-- ReadFramebuffer: FB, and no effect (R800). -/
def readFramebuffer (s : State) : List (List Argb) := s.ppu.fb

/-- Observe: RUN, FAULT and a byte through MemRead, and no effect (R800). -/
def observe (s : State) (a : Addr) : RunState × FaultRecord × Byte := (s.run, s.faultRec, busRead s a)

/-! ## A word where the next fetch reads (log 12) -/

/-- One byte placed at a bus address that storage or the ROM window answers, the image grown to hold it. -/
def placeByte (s : State) (a : Addr) (v : Byte) : State :=
  match resolve s.cart a with
  | .cell r i => { s with mem := s.mem.write r i v }
  | .rom n =>
    { s with mem := s.mem.write .cartRom (s.cart.romOffset n) v
             cart := { s.cart with romSize := max s.cart.romSize (s.cart.romOffset n + 1) } }
  | _ => s

/-- Bytes placed at PC and after it. -/
def placeBytes (s : State) (a : Addr) (bs : List Byte) : State :=
  match bs with
  | [] => s
  | b :: t => placeBytes (placeByte s a b) (a + 1) t

/-- Whether the bytes at an address and after it read as given. -/
def readsAs (s : State) (a : Addr) (bs : List Byte) : Bool :=
  match bs with
  | [] => true
  | b :: t => busRead s a == b && readsAs s (a + 1) t

/-- The state whose next fetch finds the bytes: at PC where they can stand there, else at 0xC000 in work RAM with PC moved to them. -/
def placeProgram (s : State) (bs : List Byte) : State :=
  let s0 := { s with run := .running, haltRepeat := false }
  let t := placeBytes s0 s0.regs.pc bs
  if readsAs t s0.regs.pc bs then t else placeBytes (s0.setPc 0xC000) 0xC000 bs

end Sys2Proof.Machine
end

