-- ==== Sys2Proof/Machine/Ppu.lean ====
section
/-! DEFINITION. The PPU: its scanline state machine (spec/60_exceptions.md R820-R832) and its line renderer (R840-R848). -/

namespace Sys2Proof.Machine

/-! ## The line renderer, in shade indexes 0..3 (log 16) -/

/-- A byte of VRAM by its bus address. -/
def vramAt (m : Memory) (a : Nat) : Byte := m.read .vram (a - 0x8000)

/-- TilePixel(base, col, row) (R847). -/
def tilePixel (m : Memory) (base col row : Nat) : BitVec 2 :=
  BitVec.ofBool ((vramAt m (base + 2 * row + 1)).getLsbD (7 - col)) ++ BitVec.ofBool ((vramAt m (base + 2 * row)).getLsbD (7 - col))

/-- BgTileAddr(idx): unsigned from 0x8000, or signed about 0x9000, by LCDC.TILE_DATA (R847). -/
def bgTileAddr (lcdc : Byte) (idx : Byte) : Nat :=
  if lcdc.getLsbD 4 then 0x8000 + idx.toNat * 16 else (0x9000 + idx.toInt * 16).toNat

/-- The shade a palette gives a colour index (R841). -/
def paletteShade (pal : Byte) (ci : BitVec 2) : BitVec 2 := pal.extractLsb' (2 * ci.toNat) 2

/-- A pixel of a 32 x 32 tile map at map position (px, py), through BGP (R842, R843). -/
def mapPixel (m : Memory) (p : Ppu) (map px py : Nat) : BitVec 2 :=
  paletteShade p.bgp
    (tilePixel m (bgTileAddr p.lcdc (vramAt m (map + py / 8 * 32 + px / 8))) (px % 8) (py % 8))

/-- The tile map a bit of LCDC selects (R56, R842, R843). -/
def tileMap (high : Bool) : Nat := if high then 0x9C00 else 0x9800

/-- RenderBg(y) at column x (R842). -/
def bgPixel (m : Memory) (p : Ppu) (y x : Nat) : BitVec 2 :=
  mapPixel m p (tileMap (p.lcdc.getLsbD 3)) ((x + p.scx.toNat) % 256) ((y + p.scy.toNat) % 256)

/-- RenderWindow(y) at column x, over what the line has there (R843). -/
def windowPixel (m : Memory) (p : Ppu) (y x : Nat) (under : BitVec 2) : BitVec 2 :=
  if x + 7 ≥ p.wx.toNat then
    mapPixel m p (tileMap (p.lcdc.getLsbD 6)) (x + 7 - p.wx.toNat) (y - p.wy.toNat)
  else under

/-- Whether `a` is drawn no later than `b`: descending X, ties by ascending OAM address (R846). -/
def Sprite.before (a b : Sprite) : Bool :=
  decide (b.x.toNat < a.x.toNat) || (a.x == b.x && decide (a.addr ≤ b.addr))

/-- Insertion into a list in drawing order. -/
def insertSprite (a : Sprite) (l : List Sprite) : List Sprite :=
  match l with
  | [] => [a]
  | b :: t => if a.before b then a :: b :: t else b :: insertSprite a t

/-- SpriteOrder(SPR) (R846). -/
def spriteOrder (l : List Sprite) : List Sprite :=
  match l with
  | [] => []
  | a :: t => insertSprite a (spriteOrder t)

/-- The height of sprites by LCDC.OBJ_SIZE (R844). -/
def spriteHeight (lcdc : Byte) : Nat := if lcdc.getLsbD 2 then 16 else 8

/-- The colour index of column `col` and line row `row` of a sprite, flips applied (R844). -/
def spriteColour (m : Memory) (h : Nat) (o : Sprite) (row col : Nat) : BitVec 2 :=
  tilePixel m (0x8000 + (if h = 16 then o.tile &&& 0xFE else o.tile).toNat * 16)
    (if o.flags.getLsbD 5 then 7 - col else col) (if o.flags.getLsbD 6 then h - 1 - row else row)

/-- One column of a sprite on the line: off the screen or transparent, nothing (R844). -/
def drawColumn (m : Memory) (p : Ppu) (h : Nat) (o : Sprite) (row : Nat) (line : List (BitVec 2)) (col : Nat) : List (BitVec 2) :=
  let ci := spriteColour m h o row col
  if 8 ≤ o.x.toNat + col ∧ o.x.toNat + col < Config.lineWidth + 8 ∧ ci ≠ 0 then
    line.set (o.x.toNat + col - 8) (paletteShade (if o.flags.getLsbD 4 then p.obp1 else p.obp0) ci)
  else line

/-- One sprite on line y, if it meets it: Y - 16 <= y < Y - 16 + h (R844). -/
def drawSprite (m : Memory) (p : Ppu) (y : Nat) (line : List (BitVec 2)) (o : Sprite) : List (BitVec 2) :=
  let h := spriteHeight p.lcdc
  if o.y.toNat ≤ y + 16 ∧ y + 16 < o.y.toNat + h then
    (List.range 8).foldl (drawColumn m p h o (y + 16 - o.y.toNat)) line
  else line

/-- The line after the backdrop and the background (R840, R842). -/
def backLine (m : Memory) (p : Ppu) (y : Nat) : List (BitVec 2) :=
  if p.lcdc.getLsbD 0 then (List.range Config.lineWidth).map (bgPixel m p y) else List.replicate Config.lineWidth 0

/-- The line after the window (R840, R843). -/
def windowLine (m : Memory) (p : Ppu) (y : Nat) : List (BitVec 2) :=
  if p.lcdc.getLsbD 0 && p.lcdc.getLsbD 5 && decide (p.wy.toNat ≤ y) then
    List.zipWith (windowPixel m p y) (List.range Config.lineWidth) (backLine m p y)
  else backLine m p y

/-- The shades of visible line y: backdrop, background, window, sprites (R840). -/
def lineShades (m : Memory) (p : Ppu) (y : Nat) : List (BitVec 2) :=
  if p.lcdc.getLsbD 1 then (spriteOrder p.spr).foldl (drawSprite m p y) (windowLine m p y) else windowLine m p y

/-- RenderLine(LY): only that line of FB is written (R840, R841). -/
def renderLine (s : State) : State :=
  { s with ppu := { s.ppu with
      fb := s.ppu.fb.set s.ppu.ly.toNat ((lineShades s.mem s.ppu s.ppu.ly.toNat).map Config.shadeArgb) } }

/-! ## The scanline state machine -/

/-- ModeOf(LY, LINE_CYC) (R820). -/
def modeOf (ly : Byte) (lineCyc : Nat) : PpuMode :=
  if Config.visibleLines ≤ ly.toNat then .vblank
  else if lineCyc < Config.oamScanCycles then .oamScan
  else if lineCyc < Config.oamScanCycles + Config.mode3Cycles then .transfer
  else .hblank

/-- Raise the LCD-status line for a mode entry, if STAT_MODE_INTERRUPTS and STAT's bit enable it (R822, R832). -/
def modeInt (enabled : Bool) (s : State) : State :=
  if Config.statModeInterrupts && enabled then raiseInt .lcdStat s else s

/-- ModeEntry(m); STAT bits 3, 4, 5 are bits 0, 1, 2 of the stored field (R822). -/
def modeEntry (m : PpuMode) (s : State) : State :=
  match m with
  | .hblank => modeInt (s.ppu.statHi.getLsbD 0) (if s.ppu.lcdc.getLsbD 7 then renderLine s else s)
  | .vblank => modeInt (s.ppu.statHi.getLsbD 1) (raiseInt .vblank s)
  | .oamScan => modeInt (s.ppu.statHi.getLsbD 2) s
  | .transfer => s

/-- LycCheck(): STAT bit 6 is bit 3 of the stored field (R830). -/
def lycCheck (s : State) : State :=
  if s.ppu.statHi.getLsbD 3 && s.ppu.ly == s.ppu.lyc then raiseInt .lcdStat s else s

/-- LineChange() (R823, R845). -/
def lineChange (s : State) : State :=
  lycCheck (if s.ppu.ly = 0 then { s with ppu := { s.ppu with spr := oamSnapshot s.mem } } else s)

/-- The line counter after a line ends (R821). -/
def nextLine (ly : Byte) : Byte := if ly = Config.lastLine then 0 else ly + 1

/-- The counters' part of PpuCycle(), with the line change actions (R821). -/
def ppuCount (s : State) : State :=
  if s.ppu.lineCyc + 1 = Config.lineCycles then
    lineChange { s with ppu := { s.ppu with lineCyc := 0, ly := nextLine s.ppu.ly } }
  else { s with ppu := { s.ppu with lineCyc := s.ppu.lineCyc + 1 } }

/-- The mode's part of PpuCycle(): MODE follows the counters, and a change runs the entry actions (R821). -/
def ppuMode (s : State) : State :=
  let m := modeOf s.ppu.ly s.ppu.lineCyc
  if m = s.ppu.mode then s else modeEntry m { s with ppu := { s.ppu with mode := m } }

/-- PpuCycle() (R821). -/
def ppuCycle (s : State) : State := ppuMode (ppuCount s)

/-- PpuAdvance(n): n single cycles (R821). -/
def ppuAdvance (n : Nat) (s : State) : State :=
  match n with
  | 0 => s
  | n + 1 => ppuAdvance n (ppuCycle s)

end Sys2Proof.Machine
end

