-- ==== Sys2Proof/Machine/Timer.lean ====
section
/-! DEFINITION. The timer: the divider and the counter with its overflow interrupt (spec/60_exceptions.md R750-R752). -/

namespace Sys2Proof.Machine

/-- The divider's part of TimerAdvance(n): one increment of DIV for each whole DIV_PERIOD, the rest kept in DIV_SUB (R750; log 9). -/
def divAdvance (n : Nat) (s : State) : State :=
  { s with timer := { s.timer with
      div := s.timer.div + BitVec.ofNat 8 ((s.timer.divSub + n) / Config.divPeriod)
      divSub := (s.timer.divSub + n) % Config.divPeriod } }

/-- TimaIncrement(): on overflow reload TMA and raise the Timer line (R752). -/
def timaIncrement (s : State) : State :=
  if s.timer.tima = 0xFF then raiseInt .timer { s with timer := { s.timer with tima := s.timer.tma } }
  else { s with timer := { s.timer with tima := s.timer.tima + 1 } }

/-- `k` increments of TIMA. -/
def timaIncrements (k : Nat) (s : State) : State :=
  match k with
  | 0 => s
  | k + 1 => timaIncrements k (timaIncrement s)

/-- TimaAdvance(n): while enabled, one increment for each whole period in TIMA_SUB, the rest kept (R751; log 9). -/
def timaAdvance (n : Nat) (s : State) : State :=
  if s.timer.enable then
    timaIncrements ((s.timer.timaSub + n) / Config.timaPeriod s.timer.sel)
      { s with timer := { s.timer with timaSub := (s.timer.timaSub + n) % Config.timaPeriod s.timer.sel } }
  else s

/-- TimerAdvance(n) (R750). -/
def timerAdvance (n : Nat) (s : State) : State := timaAdvance n (divAdvance n s)

end Sys2Proof.Machine
end

