-- ==== Sys2Proof/Machine/Tick.lean ====
section
/-! DEFINITION. The parts of the system tick around an instruction (spec/45_system.md R600, R603). -/

namespace Sys2Proof.Machine

/-- An idle step while HALTED: 4 cycles, no fetch, no ApplyPending (R601, R603). -/
def idleStep (s : State) : State := s.took Config.idleCycles

/-- The start of an instruction's dispatch: ApplyPending, then the fetch of the instruction's bytes (R601, R602, R603). -/
def dispatchStart (s : State) : Instr × State := fetchInstr (applyPending s)

/-- The devices advance by the cycles consumed, PPU first (R600). -/
def devicesAdvance (s : State) : State := timerAdvance s.cycles (ppuAdvance s.cycles s)

/-- The rest of the tick after the instruction or idle step: the poll and the devices, but neither after an illegal opcode (R600, R603, R620). -/
def finishTick (s : State) : State := if s.run = .locked then s else devicesAdvance (poll s)

/-- What a step answers when no tick is enabled: the host's moves alone, or a fault when none is left (R600; log 8). -/
def noTick (why : Fault) (before after : State) : Result :=
  if before.hostMoves.isEmpty then .fault why else .next after

end Sys2Proof.Machine
end

