-- ==== Sys2Proof/Machine/Step.lean ====
section
/-! DEFINITION. One step of the core is one system tick (spec/45_system.md R600), and a word placed where the next step fetches. -/

namespace Sys2Proof.Machine

/-- A meaning's outcome carried through the rest of the tick (R600, R603). -/
def finish (r : Result) : Result :=
  match r with
  | .next s => .next (finishTick s)
  | .fault f => .fault f
  | .refused f => .refused f

/-- SystemTick(), after the host's moves of the batch before it (R600, R800). -/
def step (s : State) : Host.Outcome State Fault Refusal :=
  let s1 := hostTurn s
  match s1.run with
  | .locked => noTick .locked s s1
  | .stopped => noTick .stopped s s1
  | .halted => .next (finishTick (idleStep s1))
  | .running => finish (exec (dispatchStart s1).1 (dispatchStart s1).2)

/-- The state with an instruction, numbered as the opcode table numbers it, stored where `step` fetches next (log 11, 12). -/
def State.withFetchWord (s : State) (nbits w : Nat) : State := placeProgram s (tableBytes nbits w)

end Sys2Proof.Machine
end

