-- ==== Sys2Proof/Safety.lean ====
section
/-! DEFINITION. What a safe run is, and the invariant of the core's state, in the terms the statements use. -/

namespace Sys2Proof.Machine

/-- A system tick is enabled (spec/45_system.md R600). -/
def State.tickEnabled (s : State) : Bool := s.run == .running || s.run == .halted

/-- `n` steps from a state, if each of them answers a next state. -/
def stepsTo (n : Nat) (s : State) : Option State :=
  match n with
  | 0 => some s
  | n + 1 =>
    match step s with
    | .next t => stepsTo n t
    | .fault _ => none
    | .refused _ => none

/-- A run of `n` steps is safe: none of them faults or is refused, and no fault is recorded at its end (spec/10_state.md R65). -/
def SafeFor (n : Nat) (s : State) : Prop := ∃ t, stepsTo n s = some t ∧ t.faultRec = .none

/-- A framebuffer has 144 lines of 160 pixels (spec/10_state.md R49). -/
def fbShape (fb : List (List Argb)) : Prop := fb.length = 144 ∧ ∀ line ∈ fb, line.length = 160

/-- The five memories of fixed size lie in their bounds (spec/10_state.md R48). -/
def fixedWithin (m : Memory) : Prop :=
  Cells.within m.vram 8192 ∧ Cells.within m.wram 8192 ∧ Cells.within m.oam 160 ∧ Cells.within m.hram 127 ∧ Cells.within m.audio 48

/-- The invariant of the core's state. -/
structure State.Inv (s : State) : Prop where
  /-- every memory has its canonical form -/
  memWf : s.mem.wf
  /-- every memory's entries lie in the memory (10_state.md R48) -/
  memWithin : s.mem.within s.cart.ramSize s.cart.romSize
  /-- BANK_LO is never 0 (10_state.md R64) -/
  bankLo : s.cart.bankLo ≠ 0
  /-- LY is 0..153 (R59) -/
  ly : s.ppu.ly.toNat < 154
  /-- LINE_CYC is 0..455 (R62) -/
  lineCyc : s.ppu.lineCyc < 456
  /-- MODE always equals ModeOf(LY, LINE_CYC) (60_exceptions.md R820) -/
  mode : s.ppu.mode = modeOf s.ppu.ly s.ppu.lineCyc
  /-- the snapshot has 40 entries (R62) -/
  spr : s.ppu.spr.length = 40
  /-- the framebuffer is 160 x 144 (R49) -/
  fb : fbShape s.ppu.fb
  /-- DIV_SUB is 0..DIV_PERIOD-1 (R51) -/
  divSub : s.timer.divSub < 256
  /-- TIMA_SUB stays below the longest period (60_exceptions.md R751) -/
  timaSub : s.timer.timaSub < 1024
  /-- the CPU is LOCKED exactly when a fault is recorded (R47, R65, 45_system.md R620) -/
  lockedIff : s.run = .locked ↔ s.faultRec ≠ .none

end Sys2Proof.Machine
end

