-- ==== Sys2Proof/Certificates/Slice0/Obligations.lean ====
section
/-! DEFINITION. The statements about the core, each a rule of spec/ or a property derived from its rules, and the spec-side notions they are written in. -/

namespace Sys2Proof.Claims

open Sys2Proof.Machine

/-- A register's index in the table r8 (spec/30_encoding.md R203). -/
def regIndex (r : Reg8) : Nat :=
  match r with
  | .b => 0
  | .c => 1
  | .d => 2
  | .e => 3
  | .h => 4
  | .l => 5
  | .a => 7

/-- The index of an entry of r8, 6 for the byte at HL (R203). -/
def slot (t : R8) : Nat :=
  match t with
  | .reg r => regIndex r
  | .atHl => 6

/-- A pair's index in rp (R204). -/
def pairIndex (p : Pair) : Nat :=
  match p with
  | .bc => 0
  | .de => 1
  | .hl => 2
  | .sp => 3

/-- A pair's index in rp2 (R204). -/
def stackIndex (p : StackPair) : Nat :=
  match p with
  | .bc => 0
  | .de => 1
  | .hl => 2
  | .af => 3

/-- A condition's index (R205). -/
def condIndex (cc : Cond) : Nat :=
  match cc with
  | .nz => 0
  | .z => 1
  | .nc => 2
  | .c => 3

/-- An extended rotate's index (R207). -/
def rotIndex (op : RotOp) : Nat :=
  match op with
  | .rlc => 0
  | .rrc => 1
  | .rl => 2
  | .rr => 3
  | .sla => 4
  | .sra => 5
  | .swap => 6
  | .srl => 7

/-- The opcode byte with fields x = op[7:6], y = op[5:3], z = op[2:0] (R201). -/
def opcode (x y z : Nat) : Byte := BitVec.ofNat 8 (64 * x + 8 * y + z)

/-- cond(cc) (spec/43_control.md R500). -/
def holds (f : Flags) (cc : Cond) : Bool :=
  match cc with
  | .nz => !f.z
  | .z => f.z
  | .nc => !f.c
  | .c => f.c

/-- The operand r8[i] as read (R203). -/
def operand (s : State) (t : R8) : Byte :=
  match t with
  | .reg r => s.reg r
  | .atHl => busRead s (s.pair .hl)

/-- The state after writing r8[i] (R203). -/
def put (s : State) (t : R8) (v : Byte) : State :=
  match t with
  | .reg r => s.setReg r v
  | .atHl => busWrite s (s.pair .hl) v

/-- `k` cycles for a register operand, `m` for memory at HL. -/
def cost (t : R8) (k m : Nat) : Nat :=
  match t with
  | .reg _ => k
  | .atHl => m

/-- The state with only the flags replaced and the cycle count recorded. -/
def setF (s : State) (f : Flags) (k : Nat) : State := { s with regs := { s.regs with f := f }, cycles := k }

/-- The state with A and the flags replaced and the cycle count recorded. -/
def setAF (s : State) (a : Byte) (f : Flags) (k : Nat) : State := { s with regs := { s.regs with a := a, f := f }, cycles := k }

/-- Push16(v) (spec/40_loads.md R340): SP falls by 2, then the low byte is written at SP and the high byte at SP + 1. -/
def push (s : State) (v : Word) : State :=
  busWrite (busWrite { s with regs := { s.regs with sp := s.regs.sp - 2 } } (s.regs.sp - 2) (lowByte v)) (s.regs.sp - 1) (highByte v)

/-- The value Pop16() returns (R341). -/
def top (s : State) : Word := imm16 (busRead s s.regs.sp) (busRead s (s.regs.sp + 1))

/-- A pair of rp2 holding a value after POP, F losing the low nibble (R343). -/
def restore (s : State) (p : StackPair) (v : Word) : State :=
  match p with
  | .bc => s.setPair .bc v
  | .de => s.setPair .de v
  | .hl => s.setPair .hl v
  | .af => { s with regs := { s.regs with a := highByte v, f := ⟨v.getLsbD 7, v.getLsbD 6, v.getLsbD 5, v.getLsbD 4⟩ } }

/-- A + v + c with the flags of ADD and ADC (spec/41_alu8.md R403, R404). -/
def added (s : State) (v : Byte) (c k : Nat) : State :=
  setAF s (BitVec.ofNat 8 (s.regs.a.toNat + v.toNat + c))
    ⟨decide ((s.regs.a.toNat + v.toNat + c) % 256 = 0), false,
      decide (s.regs.a.toNat % 16 + v.toNat % 16 + c > 15), decide (s.regs.a.toNat + v.toNat + c > 255)⟩ k

/-- The flags of A - v - c (R405, R406, R410). -/
def subtractedFlags (s : State) (v : Byte) (c : Nat) : Flags :=
  ⟨decide (((s.regs.a.toNat : Int) - v.toNat - c) % 256 = 0), true,
    decide (s.regs.a.toNat % 16 < v.toNat % 16 + c), decide (s.regs.a.toNat < v.toNat + c)⟩

/-- A - v - c with the flags of SUB and SBC (R405, R406). -/
def subtracted (s : State) (v : Byte) (c k : Nat) : State :=
  setAF s (BitVec.ofInt 8 ((s.regs.a.toNat : Int) - v.toNat - c)) (subtractedFlags s v c) k

/-- A logic result with its flags (R407, R408, R409). -/
def logical (s : State) (r : Byte) (h : Bool) (k : Nat) : State := setAF s r ⟨decide (r = 0), false, h, false⟩ k

/-- The result and the carry of a rotate, shift or swap of `v` with carry-in `c`, on exact numbers (spec/44_bitops.md R551-R562). -/
def rotated (op : RotOp) (v c : Nat) : Nat × Nat :=
  match op with
  | .rlc => (2 * v % 256 + v / 128, v / 128)
  | .rrc => (v / 2 + 128 * (v % 2), v % 2)
  | .rl => (2 * v % 256 + c, v / 128)
  | .rr => (v / 2 + 128 * c, v % 2)
  | .sla => (2 * v % 256, v / 128)
  | .sra => (v / 2 + 128 * (v / 128), v % 2)
  | .swap => (16 * (v % 16) + v / 16, 0)
  | .srl => (v / 2, v % 2)

/-- The 11 illegal opcodes and their constructors (spec/30_encoding.md R211). -/
def illegal : List (Instr × Byte) :=
  [(.illegalD3, 0xD3), (.illegalDB, 0xDB), (.illegalDD, 0xDD), (.illegalE3, 0xE3), (.illegalE4, 0xE4), (.illegalEB, 0xEB)] ++
  [(.illegalEC, 0xEC), (.illegalED, 0xED), (.illegalF4, 0xF4), (.illegalFC, 0xFC), (.illegalFD, 0xFD)]

/-- The bytes at PC and after it are the given ones. -/
def bytesAt (s : State) (bs : List Byte) : Prop :=
  ∀ k, k < bs.length → busRead s (s.regs.pc + BitVec.ofNat 16 k) = bs.getD k 0

/-- The end of a tick after the instruction or the idle step: the poll, then the PPU and the timer by the cycles of both (spec/45_system.md R600, R603). -/
def advanced (u : State) : State := timerAdvance (poll u).cycles (ppuAdvance (poll u).cycles (poll u))

/-- The plain storage of fixed size behind a bus address: VRAM, WRAM with its echo, OAM, AUDIO, HRAM (spec/20_memory.md R120, R121, R131). -/
def storage (n : Nat) : Option (Region × Nat) :=
  if 0x8000 ≤ n ∧ n < 0xA000 then some (.vram, n - 0x8000)
  else if 0xC000 ≤ n ∧ n < 0xE000 then some (.wram, n - 0xC000)
  else if 0xE000 ≤ n ∧ n < 0xFE00 then some (.wram, n - 0xE000)
  else if 0xFE00 ≤ n ∧ n < 0xFEA0 then some (.oam, n - 0xFE00)
  else if 0xFF10 ≤ n ∧ n < 0xFF40 then some (.audio, n - 0xFF10)
  else if 0xFF80 ≤ n ∧ n < 0xFFFF then some (.hram, n - 0xFF80)
  else none

/-- The writable memory cell behind a bus address: plain storage, or the byte of CART_RAM in the selected bank while external RAM is enabled and present (R157). -/
def cellAt (c : Cart) (n : Nat) : Option (Region × Nat) :=
  if 0xA000 ≤ n ∧ n < 0xC000 then
    if c.kind = .mbc1 ∧ c.ramEn = true ∧ c.ramSize ≠ 0 then
      some (.cartRam, ((if c.modeLatch then c.bankHi.toNat else 0) * 0x2000 + (n - 0xA000)) % c.ramSize)
    else none
  else storage n

/-- OamSnapshot(): entry i holds the four OAM bytes from 4i on as Y, X, TILE and FLAGS, and i as ADDR (spec/60_exceptions.md R845). -/
def snapshot (m : Memory) : List Sprite :=
  (List.range 40).map fun i =>
    { y := m.read .oam (4 * i), x := m.read .oam (4 * i + 1), tile := m.read .oam (4 * i + 2), flags := m.read .oam (4 * i + 3), addr := i }

/-- The two stores of a push of `v`. -/
def pushStores (s : State) (v : Word) : List (Addr × Byte) :=
  [(s.regs.sp - 2, lowByte v), (s.regs.sp - 1, highByte v)]

/-- The one store of `v` at HL. -/
def hlStore (s : State) (v : Byte) : List (Addr × Byte) := [(s.hl, v)]

/-- The bytes an instruction stores, in order, with their addresses: none for a constructor not named. -/
def stores (i : Instr) (s : State) : List (Addr × Byte) :=
  match i with
  | .ldAtHlB => hlStore s s.regs.b
  | .ldAtHlC => hlStore s s.regs.c
  | .ldAtHlD => hlStore s s.regs.d
  | .ldAtHlE => hlStore s s.regs.e
  | .ldAtHlH => hlStore s s.regs.h
  | .ldAtHlL => hlStore s s.regs.l
  | .ldAtHlA => hlStore s s.regs.a
  | .ldAtHlN8 n => hlStore s n
  | .ldAtHlIncA => hlStore s s.regs.a
  | .ldAtHlDecA => hlStore s s.regs.a
  | .ldAtBcA => [(s.pair .bc, s.regs.a)]
  | .ldAtDeA => [(s.pair .de, s.regs.a)]
  | .ldAtA16A a => [(a, s.regs.a)]
  | .ldhAtA8A n => [(highPage n, s.regs.a)]
  | .ldAtCA => [(highPage s.regs.c, s.regs.a)]
  | .ldAtA16Sp a => [(a, lowByte s.regs.sp), (a + 1, highByte s.regs.sp)]
  | .pushBc => pushStores s (s.stackPair .bc)
  | .pushDe => pushStores s (s.stackPair .de)
  | .pushHl => pushStores s (s.stackPair .hl)
  | .pushAf => pushStores s (s.stackPair .af)
  | .callA16 _ => pushStores s s.regs.pc
  | .callNzA16 _ => if holds s.regs.f .nz then pushStores s s.regs.pc else []
  | .callZA16 _ => if holds s.regs.f .z then pushStores s s.regs.pc else []
  | .callNcA16 _ => if holds s.regs.f .nc then pushStores s s.regs.pc else []
  | .callCA16 _ => if holds s.regs.f .c then pushStores s s.regs.pc else []
  | .rst00 => pushStores s s.regs.pc
  | .rst08 => pushStores s s.regs.pc
  | .rst10 => pushStores s s.regs.pc
  | .rst18 => pushStores s s.regs.pc
  | .rst20 => pushStores s s.regs.pc
  | .rst28 => pushStores s s.regs.pc
  | .rst30 => pushStores s s.regs.pc
  | .rst38 => pushStores s s.regs.pc
  | .incAtHl => hlStore s (busRead s s.hl + 1)
  | .decAtHl => hlStore s (busRead s s.hl - 1)
  | .rlcAtHl => hlStore s (rotValue .rlc (busRead s s.hl) s.regs.f.c).1
  | .rrcAtHl => hlStore s (rotValue .rrc (busRead s s.hl) s.regs.f.c).1
  | .rlAtHl => hlStore s (rotValue .rl (busRead s s.hl) s.regs.f.c).1
  | .rrAtHl => hlStore s (rotValue .rr (busRead s s.hl) s.regs.f.c).1
  | .slaAtHl => hlStore s (rotValue .sla (busRead s s.hl) s.regs.f.c).1
  | .sraAtHl => hlStore s (rotValue .sra (busRead s s.hl) s.regs.f.c).1
  | .swapAtHl => hlStore s (rotValue .swap (busRead s s.hl) s.regs.f.c).1
  | .srlAtHl => hlStore s (rotValue .srl (busRead s s.hl) s.regs.f.c).1
  | .res0AtHl => hlStore s (busRead s s.hl &&& 0xFE)
  | .res1AtHl => hlStore s (busRead s s.hl &&& 0xFD)
  | .res2AtHl => hlStore s (busRead s s.hl &&& 0xFB)
  | .res3AtHl => hlStore s (busRead s s.hl &&& 0xF7)
  | .res4AtHl => hlStore s (busRead s s.hl &&& 0xEF)
  | .res5AtHl => hlStore s (busRead s s.hl &&& 0xDF)
  | .res6AtHl => hlStore s (busRead s s.hl &&& 0xBF)
  | .res7AtHl => hlStore s (busRead s s.hl &&& 0x7F)
  | .set0AtHl => hlStore s (busRead s s.hl ||| 0x01)
  | .set1AtHl => hlStore s (busRead s s.hl ||| 0x02)
  | .set2AtHl => hlStore s (busRead s s.hl ||| 0x04)
  | .set3AtHl => hlStore s (busRead s s.hl ||| 0x08)
  | .set4AtHl => hlStore s (busRead s s.hl ||| 0x10)
  | .set5AtHl => hlStore s (busRead s s.hl ||| 0x20)
  | .set6AtHl => hlStore s (busRead s s.hl ||| 0x40)
  | .set7AtHl => hlStore s (busRead s s.hl ||| 0x80)
  | _ => []

/-- The shade 0..3 of a pixel at map position (px, py) of the tile map at bus address `map` (spec/60_exceptions.md R841, R842, R843, R847), on exact numbers. -/
def mapShade (m : Memory) (p : Ppu) (map px py : Nat) : Nat :=
  let idx := (m.read .vram (map - 0x8000 + py / 8 * 32 + px / 8)).toNat
  let base := if p.lcdc.toNat / 16 % 2 = 1 ∨ 128 ≤ idx then idx * 16 else 0x1000 + idx * 16
  let lo := (m.read .vram (base + 2 * (py % 8))).toNat
  let hi := (m.read .vram (base + 2 * (py % 8) + 1)).toNat
  let ci := 2 * (hi / 2 ^ (7 - px % 8) % 2) + lo / 2 ^ (7 - px % 8) % 2
  p.bgp.toNat / 4 ^ ci % 4

/-- The shade one sprite puts at column x of line y, if it covers that pixel with a colour other than 0 (R844), on exact integers. -/
def spriteShade (m : Memory) (p : Ppu) (o : Sprite) (x y : Nat) : Option Nat :=
  let h : Nat := if p.lcdc.toNat / 4 % 2 = 1 then 16 else 8
  let sy : Int := (o.y.toNat : Int) - 16
  let sx : Int := (o.x.toNat : Int) - 8
  if sy ≤ y ∧ (y : Int) < sy + h ∧ sx ≤ x ∧ (x : Int) < sx + 8 then
    let row := if o.flags.toNat / 64 % 2 = 1 then h - 1 - (y + 16 - o.y.toNat) else y + 16 - o.y.toNat
    let col := if o.flags.toNat / 32 % 2 = 1 then 7 - (x + 8 - o.x.toNat) else x + 8 - o.x.toNat
    let tile := if h = 16 then o.tile.toNat / 2 * 2 else o.tile.toNat
    let lo := (m.read .vram (tile * 16 + 2 * row)).toNat
    let hi := (m.read .vram (tile * 16 + 2 * row + 1)).toNat
    let ci := 2 * (hi / 2 ^ (7 - col) % 2) + lo / 2 ^ (7 - col) % 2
    if ci = 0 then none
    else some ((if o.flags.toNat / 16 % 2 = 1 then p.obp1 else p.obp0).toNat / 4 ^ ci % 4)
  else none

/-- The position of the PPU in a frame, in cycles. -/
def position (p : Ppu) : Nat := 456 * p.ly.toNat + p.lineCyc

/-- ModeOf(LY, LINE_CYC) with MODE3_CYCLES = 172 (R820). -/
def modeAt (p : Ppu) : PpuMode :=
  if 144 ≤ p.ly.toNat then .vblank else if p.lineCyc < 80 then .oamScan else if p.lineCyc < 252 then .transfer else .hblank

/-- The sum of byte + 1 over the header bytes 0x134 to 0x14C (spec/70_reset_and_hazards.md R915). -/
def headerSum (image : List Byte) : Nat := (((image.drop 0x134).take 25).map (fun b => b.toNat + 1)).sum

/-- A state without its framebuffer. -/
def withoutFb (s : State) : State := { s with ppu := { s.ppu with fb := [] } }

end Sys2Proof.Claims

open Sys2Proof Sys2Proof.Machine Sys2Proof.Claims

/-- LD between registers, memory at HL and immediates (R300, R301, R302, R303, R304). -/
def Obligations.EightBitRegisterLoads : Prop :=
  ∀ (dst src : Reg8) (n : Byte) (s : State),
    encode (Instr.mkLdReg dst src) = [opcode 1 (regIndex dst) (regIndex src)] ∧
    exec (Instr.mkLdReg dst src) s = .next { s.setReg dst (s.reg src) with cycles := 4 } ∧
    encode (Instr.mkLdRegAtHl dst) = [opcode 1 (regIndex dst) 6] ∧
    exec (Instr.mkLdRegAtHl dst) s = .next { s.setReg dst (busRead s (s.pair .hl)) with cycles := 8 } ∧
    encode (Instr.mkLdAtHlReg src) = [opcode 1 6 (regIndex src)] ∧
    exec (Instr.mkLdAtHlReg src) s = .next { busWrite s (s.pair .hl) (s.reg src) with cycles := 8 } ∧
    encode (Instr.mkLdRegN8 dst n) = [opcode 0 (regIndex dst) 6, n] ∧
    exec (Instr.mkLdRegN8 dst n) s = .next { s.setReg dst n with cycles := 8 } ∧
    encode (.ldAtHlN8 n) = [0x36, n] ∧
    exec (.ldAtHlN8 n) s = .next { busWrite s (s.pair .hl) n with cycles := 12 }

/-- The five loads of A from memory and the five stores of A to memory (R305, R306, R307, R308, R309, R310, R311, R312). -/
def Obligations.LoadAndStoreAccumulator : Prop :=
  ∀ (a : Addr) (n : Byte) (s : State),
    let page : Addr := 0xFF00 + n.setWidth 16
    let pageC : Addr := 0xFF00 + s.regs.c.setWidth 16
    let load (x : Addr) (k : Nat) : State := { s.setReg .a (busRead s x) with cycles := k }
    let store (x : Addr) (k : Nat) : State := { busWrite s x s.regs.a with cycles := k }
    encode .ldAAtBc = [0x0A] ∧ exec .ldAAtBc s = .next (load (s.pair .bc) 8) ∧
    encode .ldAAtDe = [0x1A] ∧ exec .ldAAtDe s = .next (load (s.pair .de) 8) ∧
    encode (.ldAAtA16 a) = [0xFA, lowByte a, highByte a] ∧ exec (.ldAAtA16 a) s = .next (load a 16) ∧
    encode (.ldhAAtA8 n) = [0xF0, n] ∧ exec (.ldhAAtA8 n) s = .next (load page 12) ∧
    encode .ldAAtC = [0xF2] ∧ exec .ldAAtC s = .next (load pageC 8) ∧
    encode .ldAtBcA = [0x02] ∧ exec .ldAtBcA s = .next (store (s.pair .bc) 8) ∧
    encode .ldAtDeA = [0x12] ∧ exec .ldAtDeA s = .next (store (s.pair .de) 8) ∧
    encode (.ldAtA16A a) = [0xEA, lowByte a, highByte a] ∧ exec (.ldAtA16A a) s = .next (store a 16) ∧
    encode (.ldhAtA8A n) = [0xE0, n] ∧ exec (.ldhAtA8A n) s = .next (store page 12) ∧
    encode .ldAtCA = [0xE2] ∧ exec .ldAtCA s = .next (store pageC 8)

/-- LD A,(HL+), LD A,(HL-), LD (HL+),A and LD (HL-),A (R313, R314, R315, R316). -/
def Obligations.LoadAndStepHl : Prop :=
  ∀ s : State,
    let up := BitVec.ofNat 16 ((s.pair .hl).toNat + 1)
    let down := BitVec.ofInt 16 (((s.pair .hl).toNat : Int) - 1)
    encode .ldAAtHlInc = [0x2A] ∧
    exec .ldAAtHlInc s = .next { (s.setReg .a (busRead s (s.pair .hl))).setPair .hl up with cycles := 8 } ∧
    encode .ldAAtHlDec = [0x3A] ∧
    exec .ldAAtHlDec s = .next { (s.setReg .a (busRead s (s.pair .hl))).setPair .hl down with cycles := 8 } ∧
    encode .ldAtHlIncA = [0x22] ∧
    exec .ldAtHlIncA s = .next { (busWrite s (s.pair .hl) s.regs.a).setPair .hl up with cycles := 8 } ∧
    encode .ldAtHlDecA = [0x32] ∧
    exec .ldAtHlDecA s = .next { (busWrite s (s.pair .hl) s.regs.a).setPair .hl down with cycles := 8 }

/-- LD rr,n16, LD SP,HL and LD (a16),SP (R320, R321, R322). -/
def Obligations.LoadPairsAndStoreSp : Prop :=
  ∀ (p : Pair) (n : Word) (a : Addr) (s : State),
    encode (Instr.mkLdPairN16 p n) = [opcode 0 (2 * pairIndex p) 1, lowByte n, highByte n] ∧
    exec (Instr.mkLdPairN16 p n) s = .next { s.setPair p n with cycles := 12 } ∧
    encode .ldSpHl = [0xF9] ∧
    exec .ldSpHl s = .next { s with regs := { s.regs with sp := s.pair .hl }, cycles := 8 } ∧
    encode (.ldAtA16Sp a) = [0x08, lowByte a, highByte a] ∧
    exec (.ldAtA16Sp a) s =
      .next { busWrite (busWrite s a (lowByte s.regs.sp)) (a + 1) (highByte s.regs.sp) with cycles := 20 }

/-- LD HL,SP+e8 and ADD SP,e8 add a signed displacement and set the flags from the unsigned low bytes (R323, R453). -/
def Obligations.AddDisplacementToSp : Prop :=
  ∀ (e : Int) (s : State), -128 ≤ e → e ≤ 127 →
    let u : Byte := BitVec.ofInt 8 e
    let sum : Word := BitVec.ofInt 16 (s.regs.sp.toNat + e)
    let f : Flags := ⟨false, false, decide (s.regs.sp.toNat % 16 + u.toNat % 16 > 15), decide (s.regs.sp.toNat % 256 + u.toNat > 255)⟩
    encode (.ldHlSpE8 e) = [0xF8, u] ∧
    exec (.ldHlSpE8 e) s = .next (setF (s.setPair .hl sum) f 12) ∧
    encode (.addSpE8 e) = [0xE8, u] ∧
    exec (.addSpE8 e) s = .next { s with regs := { s.regs with sp := sum, f := f }, cycles := 16 }

/-- PUSH rr and POP rr move a pair to and from the stack (R340, R342, R343). -/
def Obligations.PushAndPop : Prop :=
  ∀ (p : StackPair) (s : State),
    encode (Instr.mkPush p) = [opcode 3 (2 * stackIndex p) 5] ∧
    exec (Instr.mkPush p) s = .next { push s (s.stackPair p) with cycles := 16 } ∧
    s.stackPair .bc = s.pair .bc ∧ s.stackPair .de = s.pair .de ∧ s.stackPair .hl = s.pair .hl ∧
    (s.stackPair .af).toNat = 256 * s.regs.a.toNat +
      (128 * s.regs.f.z.toNat + 64 * s.regs.f.n.toNat + 32 * s.regs.f.h.toNat + 16 * s.regs.f.c.toNat) ∧
    encode (Instr.mkPop p) = [opcode 3 (2 * stackIndex p) 1] ∧
    exec (Instr.mkPop p) s =
      .next { restore { s with regs := { s.regs with sp := s.regs.sp + 2 } } p (top s) with cycles := 12 }

/-- A PUSH followed by a POP gives the value back and restores SP (R341, R340, R343, R157, R912). -/
def Obligations.PushThenPopGivesTheValueBack : Prop :=
  ∀ (p q : StackPair) (s : State), s.mem.wf → s.cart.ramSize ≠ 1 →
    (cellAt s.cart (s.regs.sp - 2).toNat).isSome = true → (cellAt s.cart (s.regs.sp - 1).toNat).isSome = true →
    ∃ t u, exec (Instr.mkPush p) s = .next t ∧ exec (Instr.mkPop q) t = .next u ∧ top t = s.stackPair p ∧
      u.regs.sp = s.regs.sp ∧ u.stackPair q = (if q = .af then s.stackPair p &&& 0xFFF0 else s.stackPair p)

/-- ADD A,s and ADC A,s for every operand (R403, R404). -/
def Obligations.AddAndAddWithCarry : Prop :=
  ∀ (t : R8) (n : Byte) (s : State),
    encode (Instr.mkAlu .add t) = [opcode 2 0 (slot t)] ∧
    exec (Instr.mkAlu .add t) s = .next (added s (operand s t) 0 (cost t 4 8)) ∧
    encode (Instr.mkAlu .adc t) = [opcode 2 1 (slot t)] ∧
    exec (Instr.mkAlu .adc t) s = .next (added s (operand s t) s.regs.f.c.toNat (cost t 4 8)) ∧
    encode (Instr.mkAluN8 .add n) = [0xC6, n] ∧ exec (Instr.mkAluN8 .add n) s = .next (added s n 0 8) ∧
    encode (Instr.mkAluN8 .adc n) = [0xCE, n] ∧ exec (Instr.mkAluN8 .adc n) s = .next (added s n s.regs.f.c.toNat 8)

/-- SUB A,s, SBC A,s and CP A,s for every operand (R405, R406, R410). -/
def Obligations.SubtractAndCompare : Prop :=
  ∀ (t : R8) (n : Byte) (s : State),
    encode (Instr.mkAlu .sub t) = [opcode 2 2 (slot t)] ∧
    exec (Instr.mkAlu .sub t) s = .next (subtracted s (operand s t) 0 (cost t 4 8)) ∧
    encode (Instr.mkAlu .sbc t) = [opcode 2 3 (slot t)] ∧
    exec (Instr.mkAlu .sbc t) s = .next (subtracted s (operand s t) s.regs.f.c.toNat (cost t 4 8)) ∧
    encode (Instr.mkAlu .cp t) = [opcode 2 7 (slot t)] ∧
    exec (Instr.mkAlu .cp t) s = .next (setF s (subtractedFlags s (operand s t) 0) (cost t 4 8)) ∧
    encode (Instr.mkAluN8 .sub n) = [0xD6, n] ∧ exec (Instr.mkAluN8 .sub n) s = .next (subtracted s n 0 8) ∧
    encode (Instr.mkAluN8 .sbc n) = [0xDE, n] ∧ exec (Instr.mkAluN8 .sbc n) s = .next (subtracted s n s.regs.f.c.toNat 8) ∧
    encode (Instr.mkAluN8 .cp n) = [0xFE, n] ∧ exec (Instr.mkAluN8 .cp n) s = .next (setF s (subtractedFlags s n 0) 8)

/-- AND A,s, XOR A,s and OR A,s for every operand (R407, R408, R409). -/
def Obligations.LogicOperations : Prop :=
  ∀ (t : R8) (n : Byte) (s : State),
    encode (Instr.mkAlu .and t) = [opcode 2 4 (slot t)] ∧
    exec (Instr.mkAlu .and t) s = .next (logical s (s.regs.a &&& operand s t) true (cost t 4 8)) ∧
    encode (Instr.mkAlu .xor t) = [opcode 2 5 (slot t)] ∧
    exec (Instr.mkAlu .xor t) s = .next (logical s (s.regs.a ^^^ operand s t) false (cost t 4 8)) ∧
    encode (Instr.mkAlu .or t) = [opcode 2 6 (slot t)] ∧
    exec (Instr.mkAlu .or t) s = .next (logical s (s.regs.a ||| operand s t) false (cost t 4 8)) ∧
    encode (Instr.mkAluN8 .and n) = [0xE6, n] ∧ exec (Instr.mkAluN8 .and n) s = .next (logical s (s.regs.a &&& n) true 8) ∧
    encode (Instr.mkAluN8 .xor n) = [0xEE, n] ∧ exec (Instr.mkAluN8 .xor n) s = .next (logical s (s.regs.a ^^^ n) false 8) ∧
    encode (Instr.mkAluN8 .or n) = [0xF6, n] ∧ exec (Instr.mkAluN8 .or n) s = .next (logical s (s.regs.a ||| n) false 8)

/-- INC r8 and DEC r8 on a register or the byte at HL (R411, R412). -/
def Obligations.IncrementAndDecrementByte : Prop :=
  ∀ (t : R8) (s : State),
    let v := (operand s t).toNat
    encode (Instr.mkInc8 t) = [opcode 0 (slot t) 4] ∧
    exec (Instr.mkInc8 t) s =
      .next (setF (put s t (BitVec.ofNat 8 (v + 1))) ⟨decide ((v + 1) % 256 = 0), false, decide (v % 16 = 15), s.regs.f.c⟩ (cost t 4 12)) ∧
    encode (Instr.mkDec8 t) = [opcode 0 (slot t) 5] ∧
    exec (Instr.mkDec8 t) s =
      .next (setF (put s t (BitVec.ofNat 8 (v + 255))) ⟨decide (v = 1), true, decide (v % 16 = 0), s.regs.f.c⟩ (cost t 4 12))

/-- DAA adjusts A after a BCD addition or subtraction (R413). -/
def Obligations.DecimalAdjust : Prop :=
  ∀ s : State,
    let a : Int := s.regs.a.toNat
    let high : Bool := s.regs.f.c || (!s.regs.f.n && decide (a > 0x99))
    let low : Bool := s.regs.f.h || (!s.regs.f.n && decide (a % 16 > 9))
    let d : Int := 0x60 * high.toNat + 0x06 * low.toNat
    let r : Int := if s.regs.f.n then a - d else a + d
    encode .daa = [0x27] ∧
    exec .daa s = .next (setAF s (BitVec.ofInt 8 r) ⟨decide (r % 256 = 0), s.regs.f.n, false, high⟩ 4)

/-- CPL, SCF and CCF (R414, R415, R416). -/
def Obligations.ComplementAndCarryFlag : Prop :=
  ∀ s : State,
    encode .cpl = [0x2F] ∧
    exec .cpl s = .next (setAF s (BitVec.ofNat 8 (255 - s.regs.a.toNat)) ⟨s.regs.f.z, true, true, s.regs.f.c⟩ 4) ∧
    encode .scf = [0x37] ∧ exec .scf s = .next (setF s ⟨s.regs.f.z, false, false, true⟩ 4) ∧
    encode .ccf = [0x3F] ∧ exec .ccf s = .next (setF s ⟨s.regs.f.z, false, false, !s.regs.f.c⟩ 4)

/-- INC rr, DEC rr and ADD HL,rr for the four pairs (R450, R451, R452). -/
def Obligations.PairArithmetic : Prop :=
  ∀ (p : Pair) (s : State),
    let h := (s.pair .hl).toNat
    let v := (s.pair p).toNat
    encode (Instr.mkIncPair p) = [opcode 0 (2 * pairIndex p) 3] ∧
    exec (Instr.mkIncPair p) s = .next { s.setPair p (BitVec.ofNat 16 (v + 1)) with cycles := 8 } ∧
    encode (Instr.mkDecPair p) = [opcode 0 (2 * pairIndex p + 1) 3] ∧
    exec (Instr.mkDecPair p) s = .next { s.setPair p (BitVec.ofInt 16 ((v : Int) - 1)) with cycles := 8 } ∧
    encode (Instr.mkAddHl p) = [opcode 0 (2 * pairIndex p + 1) 1] ∧
    exec (Instr.mkAddHl p) s =
      .next (setF (s.setPair .hl (BitVec.ofNat 16 (h + v)))
        ⟨s.regs.f.z, false, decide (h % 4096 + v % 4096 > 4095), decide (h + v > 65535)⟩ 8)

/-- JP, JP cc, JP HL, JR and JR cc (R501, R502, R503, R504, R505). -/
def Obligations.Jumps : Prop :=
  ∀ (cc : Cond) (a : Addr) (e : Int) (s : State), -128 ≤ e → e ≤ 127 →
    let u : Byte := BitVec.ofInt 8 e
    let goto (b : Addr) (k : Nat) : State := { s with regs := { s.regs with pc := b }, cycles := k }
    let near : Addr := BitVec.ofInt 16 (s.regs.pc.toNat + e)
    encode (.jpA16 a) = [0xC3, lowByte a, highByte a] ∧ exec (.jpA16 a) s = .next (goto a 16) ∧
    encode (Instr.mkJp cc a) = [opcode 3 (condIndex cc) 2, lowByte a, highByte a] ∧
    exec (Instr.mkJp cc a) s = .next (if holds s.regs.f cc then goto a 16 else { s with cycles := 12 }) ∧
    encode .jpHl = [0xE9] ∧ exec .jpHl s = .next (goto (s.pair .hl) 4) ∧
    encode (.jrE8 e) = [0x18, u] ∧ exec (.jrE8 e) s = .next (goto near 12) ∧
    encode (Instr.mkJr cc e) = [opcode 0 (4 + condIndex cc) 0, u] ∧
    exec (Instr.mkJr cc e) s = .next (if holds s.regs.f cc then goto near 12 else { s with cycles := 8 })

/-- CALL, CALL cc and RST push the post-fetch PC and jump (R506, R507, R510). -/
def Obligations.CallsAndRestarts : Prop :=
  ∀ (cc : Cond) (y : Fin 8) (a : Addr) (s : State),
    let called (b : Addr) (k : Nat) : State :=
      { push s s.regs.pc with regs := { s.regs with sp := s.regs.sp - 2, pc := b }, cycles := k }
    encode (.callA16 a) = [0xCD, lowByte a, highByte a] ∧ exec (.callA16 a) s = .next (called a 24) ∧
    encode (Instr.mkCall cc a) = [opcode 3 (condIndex cc) 4, lowByte a, highByte a] ∧
    exec (Instr.mkCall cc a) s = .next (if holds s.regs.f cc then called a 24 else { s with cycles := 12 }) ∧
    encode (Instr.mkRst y) = [opcode 3 y.val 7] ∧
    exec (Instr.mkRst y) s = .next (called (BitVec.ofNat 16 (8 * y.val)) 16)

/-- RET, RET cc and RETI pop PC (R508, R509, R512). -/
def Obligations.Returns : Prop :=
  ∀ (cc : Cond) (s : State),
    let returned (k : Nat) : State := { s with regs := { s.regs with pc := top s, sp := s.regs.sp + 2 }, cycles := k }
    encode .ret = [0xC9] ∧ exec .ret s = .next (returned 16) ∧
    encode (Instr.mkRet cc) = [opcode 3 (condIndex cc) 0] ∧
    exec (Instr.mkRet cc) s = .next (if holds s.regs.f cc then returned 20 else { s with cycles := 8 }) ∧
    encode .reti = [0xD9] ∧ exec .reti s = .next { returned 16 with ime := true }

/-- RLCA, RRCA, RLA and RRA rotate A and always clear FZ (R551, R552, R553, R554). -/
def Obligations.AccumulatorRotates : Prop :=
  ∀ s : State,
    let v := s.regs.a.toNat
    let k := s.regs.f.c.toNat
    let f (c : Nat) : Flags := ⟨false, false, false, decide (c = 1)⟩
    encode .rlca = [0x07] ∧ exec .rlca s = .next (setAF s (BitVec.ofNat 8 (2 * v + v / 128)) (f (v / 128)) 4) ∧
    encode .rrca = [0x0F] ∧ exec .rrca s = .next (setAF s (BitVec.ofNat 8 (v / 2 + 128 * (v % 2))) (f (v % 2)) 4) ∧
    encode .rla = [0x17] ∧ exec .rla s = .next (setAF s (BitVec.ofNat 8 (2 * v + k)) (f (v / 128)) 4) ∧
    encode .rra = [0x1F] ∧ exec .rra s = .next (setAF s (BitVec.ofNat 8 (v / 2 + 128 * k)) (f (v % 2)) 4)

/-- RLC, RRC, RL, RR, SLA, SRA, SWAP and SRL on every operand (R555, R556, R557, R558, R559, R560, R561, R562). -/
def Obligations.ExtendedRotatesAndShifts : Prop :=
  ∀ (op : RotOp) (t : R8) (s : State),
    let r := rotated op (operand s t).toNat s.regs.f.c.toNat
    encode (Instr.mkRot op t) = [0xCB, opcode 0 (rotIndex op) (slot t)] ∧
    exec (Instr.mkRot op t) s =
      .next (setF (put s t (BitVec.ofNat 8 r.1)) ⟨decide (r.1 = 0), false, false, decide (r.2 = 1)⟩ (cost t 8 16))

/-- BIT b, RES b and SET b on every bit and operand (R563, R564, R565). -/
def Obligations.BitResetAndSet : Prop :=
  ∀ (b : Fin 8) (t : R8) (s : State),
    let v := (operand s t).toNat
    let k := v / 2 ^ b.val % 2
    encode (Instr.mkBit b t) = [0xCB, opcode 1 b.val (slot t)] ∧
    exec (Instr.mkBit b t) s = .next (setF s ⟨decide (k = 0), false, true, s.regs.f.c⟩ (cost t 8 12)) ∧
    encode (Instr.mkRes b t) = [0xCB, opcode 2 b.val (slot t)] ∧
    exec (Instr.mkRes b t) s = .next { put s t (BitVec.ofNat 8 (v - k * 2 ^ b.val)) with cycles := cost t 8 16 } ∧
    encode (Instr.mkSet b t) = [0xCB, opcode 3 b.val (slot t)] ∧
    exec (Instr.mkSet b t) s = .next { put s t (BitVec.ofNat 8 (v + (1 - k) * 2 ^ b.val)) with cycles := cost t 8 16 }

/-- NOP changes nothing, DI and EI only stage their change of IME (R604, R605, R606, R46). -/
def Obligations.NopDiAndEi : Prop :=
  ∀ s : State,
    encode .nop = [0x00] ∧ exec .nop s = .next { s with cycles := 4 } ∧
    encode .di = [0xF3] ∧ exec .di s = .next { s with imePending := .clear, cycles := 4 } ∧
    encode .ei = [0xFB] ∧ exec .ei s = .next { s with imePending := .set, cycles := 4 }

/-- HALT halts or sets the halt repeat, and a HALTED core takes idle steps of 4 cycles (R610, R603, R710). -/
def Obligations.HaltThenIdleSteps : Prop :=
  ∀ s : State,
    let pend : Prop := ∃ k, k < 5 ∧ s.ie.getLsbD k = true ∧ s.ifl.getLsbD k = true
    encode .halt = [0x76] ∧
    (s.ime = false ∧ pend → exec .halt s = .next { s with haltRepeat := true, cycles := 4 }) ∧
    (¬ (s.ime = false ∧ pend) → exec .halt s = .next { s with run := .halted, cycles := 4 }) ∧
    ((hostTurn s).run = .halted → step s = .next (advanced { hostTurn s with cycles := 4 }))

/-- STOP resets the divider and stops the core until a press; the last clause, that a step of a STOPPED core answers the host's moves alone, is the model's choice (DESIGN CHOICE, log 8 and log 7), since the spec has no step there (R612, R600, R613). -/
def Obligations.StopStopsTheClock : Prop :=
  ∀ (g : Byte) (s : State),
    encode (.stop g) = [0x10, g] ∧
    exec (.stop g) s = .next { s with timer := { s.timer with div := 0, divSub := 0 }, run := .stopped, cycles := 4 } ∧
    ((hostTurn s).run = .stopped → ∀ t, step s = .next t → t = hostTurn s)

/-- Each of the 11 illegal opcodes records the fault and locks the core; that this answers a next state is read from R620 (DEDUCED, log 14), and the last clause, that a step of a LOCKED core answers the host's moves alone, is the model's choice (DESIGN CHOICE, log 8 and log 7), since the spec enables no tick then (R211, R620, R730). -/
def Obligations.IllegalOpcodesLockTheCore : Prop :=
  ∀ p ∈ illegal, ∀ s : State,
    encode p.1 = [p.2] ∧
    exec p.1 s = .next { s with faultRec := .illegalOpcode p.2 s.opAddr, run := .locked, cycles := 0 } ∧
    ((hostTurn s).run = .running → (hostTurn s).haltRepeat = false → busRead (hostTurn s) s.regs.pc = p.2 →
      step s = .next { applyPending (hostTurn s) with
        regs := { s.regs with pc := s.regs.pc + 1 }, opAddr := s.regs.pc,
        faultRec := .illegalOpcode p.2 s.regs.pc, run := .locked, cycles := 0 }) ∧
    ((hostTurn s).run = .locked → ∀ t, step s = .next t → t = hostTurn s)

/-- A tick of a RUNNING core is exec of the instruction at PC, then the poll and the devices (R600, R603, R602, R601, R44). -/
def Obligations.StepRunsTheDecodedInstruction : Prop :=
  ∀ (i : Instr) (s : State),
    let t := hostTurn s
    t.run = .running → t.haltRepeat = false → i.wellFormed = true → bytesAt t (encode i) →
    step s =
      match exec i { applyPending t with
          regs := { t.regs with pc := t.regs.pc + BitVec.ofNat 16 (encode i).length }, opAddr := t.regs.pc } with
      | .next u => .next (if u.run = .locked then u else advanced u)
      | .fault f => .fault f
      | .refused r => .refused r

/-- After the HALT repeat the opcode fetch does not advance PC (R602, R611). -/
def Obligations.HaltRepeatRereadsTheOpcode : Prop :=
  ∀ s : State,
    let t := hostTurn s
    let b := busRead t t.regs.pc
    t.run = .running → t.haltRepeat = true →
    step s =
      match exec (decodeBytes b (if 2 ≤ instrLength b then b else 0) (if 3 ≤ instrLength b then busRead t (t.regs.pc + 1) else 0))
          { applyPending t with
            regs := { t.regs with pc := t.regs.pc + BitVec.ofNat 16 (instrLength b - 1) }, opAddr := t.regs.pc, haltRepeat := false } with
      | .next u => .next (if u.run = .locked then u else advanced u)
      | .fault f => .fault f
      | .refused r => .refused r

/-- A staged EI or DI is applied at the next dispatch, and no interrupt is taken right after EI (R601, R606, R710, R920). -/
def Obligations.StagedImeTakesEffectAtTheNextDispatch : Prop :=
  ∀ s : State,
    (s.imePending = .set → applyPending s = { s with ime := true, imePending := .none }) ∧
    (s.imePending = .clear → applyPending s = { s with ime := false, imePending := .none }) ∧
    (s.imePending = .none → applyPending s = s) ∧
    ((hostTurn s).run = .running → (hostTurn s).haltRepeat = false → busRead (hostTurn s) s.regs.pc = 0xFB →
      (applyPending s).ime = false →
      ∃ t, step s = .next t ∧ t.regs = { s.regs with pc := s.regs.pc + 1 } ∧ t.ime = false ∧ t.imePending = .set ∧ t.mem = s.mem)

/-- The poll wakes a halted core and dispatches the lowest-numbered pending line when IME is set (R710, R711, R720). -/
def Obligations.PollTakesTheFirstPendingLine : Prop :=
  ∀ s : State,
    let on (k : Nat) : Bool := s.ie.getLsbD k && s.ifl.getLsbD k
    let awake : RunState := if s.run = .halted then .running else s.run
    ((∀ k, k < 5 → on k = false) → poll s = s) ∧
    ((∃ k, k < 5 ∧ on k = true) → s.ime = false → poll s = { s with run := awake }) ∧
    (∀ k, k < 5 → on k = true → (∀ j, j < k → on j = false) → s.ime = true →
      poll s =
        { push { s with ifl := s.ifl &&& ~~~((1 : BitVec 5) <<< k), ime := false } s.regs.pc with
          regs := { s.regs with sp := s.regs.sp - 2, pc := BitVec.ofNat 16 (0x40 + 8 * k) }, run := awake,
          cycles := s.cycles + 20 })

/-- A raise sets exactly one bit of IF and an acknowledge clears exactly one (R702, R704). -/
def Obligations.RaiseAndAcknowledgeOneLine : Prop :=
  ∀ (line : Line) (k : Nat) (s : State), k < 5 →
    (raiseInt line s).ifl.getLsbD k = (s.ifl.getLsbD k || decide (k = line.bit)) ∧
    (acknowledge line s).ifl.getLsbD k = (s.ifl.getLsbD k && !decide (k = line.bit)) ∧
    { raiseInt line s with ifl := s.ifl } = s ∧ { acknowledge line s with ifl := s.ifl } = s

/-- Registers, pairs and the flag byte read back what was written (R40, R41, R42). -/
def Obligations.RegisterFile : Prop :=
  ∀ (r q : Reg8) (p : Pair) (v : Byte) (w : Word) (f : Flags) (s : State),
    (s.setReg r v).reg q = (if q = r then v else s.reg q) ∧
    (s.setReg r v).regs.f = s.regs.f ∧ (s.setReg r v).regs.sp = s.regs.sp ∧ (s.setReg r v).regs.pc = s.regs.pc ∧
    { s.setReg r v with regs := s.regs } = s ∧
    (s.pair .bc).toNat = 256 * s.regs.b.toNat + s.regs.c.toNat ∧
    (s.pair .de).toNat = 256 * s.regs.d.toNat + s.regs.e.toNat ∧
    (s.pair .hl).toNat = 256 * s.regs.h.toNat + s.regs.l.toNat ∧ s.pair .sp = s.regs.sp ∧
    (s.setPair p w).pair p = w ∧ (∀ q : Pair, q ≠ p → (s.setPair p w).pair q = s.pair q) ∧
    (s.setPair p w).regs.a = s.regs.a ∧ (s.setPair p w).regs.f = s.regs.f ∧ (s.setPair p w).regs.pc = s.regs.pc ∧
    { s.setPair p w with regs := s.regs } = s ∧
    f.toByte.getLsbD 7 = f.z ∧ f.toByte.getLsbD 6 = f.n ∧ f.toByte.getLsbD 5 = f.h ∧ f.toByte.getLsbD 4 = f.c ∧
    f.toByte.toNat % 16 = 0 ∧ (Flags.ofByte v).toByte = v &&& 0xF0 ∧ Flags.ofByte f.toByte = f

/-- What answers each bus address (R110, R111, R120, R121, R131, R104, R9). -/
def Obligations.AddressMap : Prop :=
  ∀ (a : Addr) (v : Byte) (s : State),
    let n := a.toNat
    (n < 0x8000 → busRead s a = romRead s.cart s.mem n ∧ busWrite s a v = { s with cart := s.cart.control n v }) ∧
    (∀ r k, storage n = some (r, k) → busRead s a = s.mem.read r k ∧ busWrite s a v = { s with mem := s.mem.write r k v }) ∧
    (0xA000 ≤ n → n < 0xC000 → ∀ k, s.cart.ramOffset n = some k →
      busRead s a = s.mem.read .cartRam k ∧ busWrite s a v = { s with mem := s.mem.write .cartRam k v }) ∧
    (0xA000 ≤ n → n < 0xC000 → s.cart.ramOffset n = none → busRead s a = 0xFF ∧ busWrite s a v = s) ∧
    (0xFEA0 ≤ n → n < 0xFF00 → busRead s a = 0xFF ∧ busWrite s a v = s) ∧
    (n = 0xFFFF → busRead s a = s.ie ∧ busWrite s a v = { s with ie := v })

/-- A byte of storage or of enabled external RAM reads back what was written, at every alias too, and no other byte changes (R121, R122, R131, R157, R160). -/
def Obligations.StorageReadsBackAndKeepsTheRest : Prop :=
  ∀ (a b : Addr) (v : Byte) (s : State), s.mem.wf → (cellAt s.cart a.toNat).isSome = true →
    (cellAt s.cart b.toNat = cellAt s.cart a.toNat → busRead (busWrite s a v) b = v) ∧
    (cellAt s.cart b.toNat ≠ cellAt s.cart a.toNat → busRead (busWrite s a v) b = busRead s b)

/-- An instruction changes memory and the devices only by the bytes it stores (R13, R105, R106, R43). -/
def Obligations.EveryInstructionChangesOnlyTheBytesItStores : Prop :=
  ∀ (i : Instr) (s t : State), exec i s = .next t →
    let w := (stores i s).foldl (fun u p => busWrite u p.1 p.2) s
    (t.mem = w.mem ∧ t.cart = w.cart ∧ t.ie = w.ie ∧ t.ifl = w.ifl ∧ t.ppu = w.ppu ∧ t.joypad = w.joypad ∧
      ((∀ g, i ≠ .stop g) → t.timer = w.timer)) ∧
    (s.mem.wf → (∀ p ∈ stores i s, ∃ r k, resolve s.cart p.1 = .cell r k) →
      ∀ a, (∀ p ∈ stores i s, resolve s.cart a ≠ resolve s.cart p.1) → ((∀ g, i ≠ .stop g) ∨ a ≠ 0xFF04) →
        busRead t a = busRead s a)

/-- Which instructions change IME, IME_PENDING, RUN, HALT_REPEAT and FAULT (R45, R46, R47, R65). -/
def Obligations.EachInstructionKeepsTheOthersControlState : Prop :=
  ∀ (i : Instr) (s t : State), exec i s = .next t →
    (i ≠ .reti → t.ime = s.ime) ∧ (i ≠ .di → i ≠ .ei → t.imePending = s.imePending) ∧
    (i ≠ .halt → (∀ g, i ≠ .stop g) → (∀ p ∈ illegal, p.1 ≠ i) → t.run = s.run) ∧
    (i ≠ .halt → t.haltRepeat = s.haltRepeat) ∧ ((∀ p ∈ illegal, p.1 ≠ i) → t.faultRec = s.faultRec) ∧
    t.opAddr = s.opAddr ∧ t.hostMoves = s.hostMoves

/-- What a read of each I/O register returns (R130, R801, R50, R57, R54, R53). -/
def Obligations.IoRegisterReads : Prop :=
  ∀ s : State,
    let low (k : Nat) (d b : Bool) : Nat := if (!s.joypad.selDirs && d) || (!s.joypad.selButtons && b) then 0 else 2 ^ k
    (busRead s 0xFF00).toNat = 0xC0 + 32 * s.joypad.selButtons.toNat + 16 * s.joypad.selDirs.toNat +
      (low 0 s.joypad.btn.right s.joypad.btn.a + low 1 s.joypad.btn.left s.joypad.btn.b +
        low 2 s.joypad.btn.up s.joypad.btn.select + low 3 s.joypad.btn.down s.joypad.btn.start) ∧
    busRead s 0xFF04 = s.timer.div ∧ busRead s 0xFF05 = s.timer.tima ∧ busRead s 0xFF06 = s.timer.tma ∧
    (busRead s 0xFF07).toNat = 0xF8 + 4 * s.timer.enable.toNat + s.timer.sel.toNat ∧
    (busRead s 0xFF0F).toNat = 0xE0 + s.ifl.toNat ∧
    busRead s 0xFF40 = s.ppu.lcdc ∧
    (busRead s 0xFF41).toNat = 0x80 + 8 * s.ppu.statHi.toNat + (if s.ppu.ly = s.ppu.lyc then 4 else 0) +
      (match s.ppu.mode with | .hblank => 0 | .vblank => 1 | .oamScan => 2 | .transfer => 3) ∧
    busRead s 0xFF42 = s.ppu.scy ∧ busRead s 0xFF43 = s.ppu.scx ∧ busRead s 0xFF44 = s.ppu.ly ∧ busRead s 0xFF45 = s.ppu.lyc ∧
    busRead s 0xFF46 = s.ppu.dma ∧ busRead s 0xFF47 = s.ppu.bgp ∧ busRead s 0xFF48 = s.ppu.obp0 ∧ busRead s 0xFF49 = s.ppu.obp1 ∧
    busRead s 0xFF4A = s.ppu.wy ∧ busRead s 0xFF4B = s.ppu.wx ∧
    (∀ k, k < 0x80 → k ∈ [1, 2, 3, 8, 9, 10, 11, 12, 13, 14] ∨ 0x4C ≤ k → busRead s (0xFF00 + BitVec.ofNat 16 k) = 0xFF)

/-- What a write of each I/O register but DMA does (R130, R761, R59, R50, R53, R54, R57). -/
def Obligations.IoRegisterWrites : Prop :=
  ∀ (v : Byte) (s : State),
    busWrite s 0xFF00 v =
      { s with joypad := { s.joypad with selButtons := decide (v.toNat / 32 % 2 = 1), selDirs := decide (v.toNat / 16 % 2 = 1) } } ∧
    busWrite s 0xFF04 v = { s with timer := { s.timer with div := 0, divSub := 0 } } ∧
    busWrite s 0xFF05 v = { s with timer := { s.timer with tima := v } } ∧
    busWrite s 0xFF06 v = { s with timer := { s.timer with tma := v } } ∧
    busWrite s 0xFF07 v = { s with timer := { s.timer with enable := decide (v.toNat / 4 % 2 = 1), sel := BitVec.ofNat 2 v.toNat } } ∧
    busWrite s 0xFF0F v = { s with ifl := BitVec.ofNat 5 v.toNat } ∧
    busWrite s 0xFF40 v = { s with ppu := { s.ppu with lcdc := v } } ∧
    busWrite s 0xFF41 v = { s with ppu := { s.ppu with statHi := BitVec.ofNat 4 (v.toNat / 8) } } ∧
    busWrite s 0xFF42 v = { s with ppu := { s.ppu with scy := v } } ∧ busWrite s 0xFF43 v = { s with ppu := { s.ppu with scx := v } } ∧
    busWrite s 0xFF44 v = s ∧ busWrite s 0xFF45 v = { s with ppu := { s.ppu with lyc := v } } ∧
    busWrite s 0xFF47 v = { s with ppu := { s.ppu with bgp := v } } ∧ busWrite s 0xFF48 v = { s with ppu := { s.ppu with obp0 := v } } ∧
    busWrite s 0xFF49 v = { s with ppu := { s.ppu with obp1 := v } } ∧ busWrite s 0xFF4A v = { s with ppu := { s.ppu with wy := v } } ∧
    busWrite s 0xFF4B v = { s with ppu := { s.ppu with wx := v } } ∧
    (∀ k, k < 0x80 → k ∈ [1, 2, 3, 8, 9, 10, 11, 12, 13, 14] ∨ 0x4C ≤ k → busWrite s (0xFF00 + BitVec.ofNat 16 k) v = s)

/-- A write to DMA copies 160 bytes into OAM through the bus (R140). -/
def Obligations.OamDmaCopies160Bytes : Prop :=
  ∀ (v : Byte) (s : State), s.mem.wf →
    let s0 : State := { s with ppu := { s.ppu with dma := v } }
    let t := busWrite s 0xFF46 v
    (∀ i, i < 160 → t.mem.read .oam i = busRead s0 (BitVec.ofNat 16 (0x100 * v.toNat + i))) ∧
    (∀ r, r ≠ .oam → t.mem.cells r = s.mem.cells r) ∧ { t with mem := s.mem } = s0

/-- The ROM-only and MBC1 cartridges: what a read returns and what a control write sets (R150, R151, R152, R153, R154, R155, R156, R157). -/
def Obligations.CartridgeReadsAndBanks : Prop :=
  ∀ (a : Addr) (v : Byte) (s : State),
    let n := a.toNat
    let c := s.cart
    let byte (k : Nat) : Byte := if k < c.romSize then s.mem.read .cartRom k else 0xFF
    let bank := (if c.modeLatch then c.bankLo.toNat else 32 * c.bankHi.toNat + c.bankLo.toNat) % c.nrom
    let off := ((if c.modeLatch then c.bankHi.toNat else 0) * 0x2000 + (n - 0xA000)) % c.ramSize
    (c.kind = .romOnly →
      (n < 0x8000 → busRead s a = byte n ∧ busWrite s a v = s) ∧
      (0xA000 ≤ n → n < 0xC000 → busRead s a = 0xFF ∧ busWrite s a v = s)) ∧
    (c.kind = .mbc1 →
      (n < 0x4000 → busRead s a = byte n) ∧
      (0x4000 ≤ n → n < 0x8000 → busRead s a = byte (bank * 0x4000 + (n - 0x4000))) ∧
      (n < 0x2000 → busWrite s a v = { s with cart := { c with ramEn := decide (v.toNat % 16 = 0xA) } }) ∧
      (0x2000 ≤ n → n < 0x4000 →
        busWrite s a v = { s with cart := { c with bankLo := BitVec.ofNat 5 (if v.toNat % 32 = 0 then 1 else v.toNat) } }) ∧
      (0x4000 ≤ n → n < 0x6000 → busWrite s a v = { s with cart := { c with bankHi := BitVec.ofNat 2 v.toNat } }) ∧
      (0x6000 ≤ n → n < 0x8000 → busWrite s a v = { s with cart := { c with modeLatch := decide (v.toNat % 2 = 1) } }) ∧
      (0xA000 ≤ n → n < 0xC000 → (c.ramEn = false ∨ c.ramSize = 0) → busRead s a = 0xFF ∧ busWrite s a v = s) ∧
      (0xA000 ≤ n → n < 0xC000 → c.ramEn = true → c.ramSize ≠ 0 →
        busRead s a = s.mem.read .cartRam off ∧ busWrite s a v = { s with mem := s.mem.write .cartRam off v }))

/-- The divider and the counter advance as the loops of the spec (R750, R751, R752, R53). -/
def Obligations.TimerAdvanceIsItsLoop : Prop :=
  ∀ (n : Nat) (s : State),
    let t := s.timer
    let period := [1024, 16, 64, 256].getD t.sel.toNat 0
    timerAdvance n s = timaAdvance n (divAdvance n s) ∧
    (t.divSub + n < 256 → divAdvance n s = { s with timer := { t with divSub := t.divSub + n } }) ∧
    (256 ≤ t.divSub + n →
      divAdvance n s = divAdvance 0 { s with timer := { t with div := BitVec.ofNat 8 (t.div.toNat + 1), divSub := t.divSub + n - 256 } }) ∧
    (t.enable = false → timaAdvance n s = s) ∧
    (t.enable = true → t.timaSub + n < period → timaAdvance n s = { s with timer := { t with timaSub := t.timaSub + n } }) ∧
    (t.enable = true → period ≤ t.timaSub + n →
      timaAdvance n s = timaAdvance 0 (timaIncrement { s with timer := { t with timaSub := t.timaSub + n - period } })) ∧
    timaIncrement s =
      (if t.tima = 0xFF then { s with timer := { t with tima := t.tma }, ifl := s.ifl ||| 0b00100 }
       else { s with timer := { t with tima := BitVec.ofNat 8 (t.tima.toNat + 1) } })

/-- The timer and the PPU advance the same however the cycles are grouped (R821, R750, R751). -/
def Obligations.DevicesDoNotDependOnTheGroupingOfCycles : Prop :=
  ∀ (m n : Nat) (s : State),
    timerAdvance (m + n) s = timerAdvance n (timerAdvance m s) ∧ ppuAdvance (m + n) s = ppuAdvance n (ppuAdvance m s)

/-- The PPU's position moves modulo 70,224 cycles, MODE is the function of it, and the line and frame times follow (R820, R821, R822, R824). -/
def Obligations.PpuPositionAndTiming : Prop :=
  (∀ (n : Nat) (s : State), s.ppu.ly.toNat < 154 → s.ppu.lineCyc < 456 → s.ppu.mode = modeAt s.ppu →
      let t := ppuAdvance n s
      position t.ppu = (position s.ppu + n) % 70224 ∧ t.ppu.ly.toNat < 154 ∧ t.ppu.lineCyc < 456 ∧ t.ppu.mode = modeAt t.ppu) ∧
    (∀ s : State, s.ppu.ly = 0 → s.ppu.lineCyc = 0 → s.ppu.mode = .oamScan →
      ((ppuAdvance 456 s).ppu.ly = 1 ∧ (ppuAdvance 456 s).ppu.mode = .oamScan) ∧
      ((ppuAdvance 65664 s).ppu.ly = 144 ∧ (ppuAdvance 65664 s).ppu.mode = .vblank ∧ (ppuAdvance 65664 s).ifl.getLsbD 0 = true) ∧
      ((ppuAdvance 70224 s).ppu.ly = 0 ∧ (ppuAdvance 70224 s).ppu.mode = .oamScan))

/-- What one PPU cycle raises, snapshots and draws (R821, R822, R823, R830, R832, R840, R845). -/
def Obligations.OnePpuCycle : Prop :=
  ∀ s : State, s.ppu.ly.toNat < 154 → s.ppu.lineCyc < 456 → s.ppu.mode = modeAt s.ppu →
    let t := ppuCycle s
    let newLine : Bool := decide (s.ppu.lineCyc = 455)
    let drawn : Bool := decide (s.ppu.lineCyc = 251 ∧ s.ppu.ly.toNat < 144 ∧ s.ppu.lcdc.getLsbD 7 = true)
    (∀ k, k < 5 → t.ifl.getLsbD k =
      (s.ifl.getLsbD k || (k == 0 && newLine && t.ppu.ly == 144) ||
        (k == 1 && newLine && s.ppu.statHi.getLsbD 3 && t.ppu.ly == s.ppu.lyc))) ∧
    t.ppu.spr = (if newLine = true ∧ t.ppu.ly = 0 then snapshot s.mem else s.ppu.spr) ∧
    t.ppu.fb = (if drawn then
        s.ppu.fb.set s.ppu.ly.toNat ((lineShades s.mem s.ppu s.ppu.ly.toNat).map Config.shadeArgb)
      else s.ppu.fb) ∧
    { t with ifl := s.ifl, ppu := { t.ppu with ly := s.ppu.ly, lineCyc := s.ppu.lineCyc, mode := s.ppu.mode,
                                               spr := s.ppu.spr, fb := s.ppu.fb } } = s

/-- The shade of every pixel of a line without sprites (R840, R841, R842, R843, R847). -/
def Obligations.BackgroundAndWindowPixels : Prop :=
  ∀ (m : Memory) (p : Ppu) (x y : Nat), x < 160 → y < 144 → p.lcdc.getLsbD 1 = false →
    (lineShades m p y).length = 160 ∧
    ((lineShades m p y).getD x 0).toNat =
      (if p.lcdc.getLsbD 0 = false then 0
       else if p.lcdc.getLsbD 5 = true ∧ p.wy.toNat ≤ y ∧ p.wx.toNat ≤ x + 7 then
         mapShade m p (if p.lcdc.getLsbD 6 then 0x9C00 else 0x9800) (x + 7 - p.wx.toNat) (y - p.wy.toNat)
       else
         mapShade m p (if p.lcdc.getLsbD 3 then 0x9C00 else 0x9800) ((x + p.scx.toNat) % 256) ((y + p.scy.toNat) % 256))

/-- A pixel of a line with sprites is the last covering sprite's, in drawing order (R844, R846, R840, R847). -/
def Obligations.SpritePixels : Prop :=
  ∀ (m : Memory) (p : Ppu) (x y : Nat), x < 160 → y < 144 → p.lcdc.getLsbD 1 = true →
    ((lineShades m p y).getD x 0).toNat =
      (spriteOrder p.spr).foldl (fun under o => (spriteShade m p o x y).getD under)
        ((lineShades m { p with lcdc := p.lcdc &&& 0xFD } y).getD x 0).toNat

/-- The drawing order holds every entry once, by X descending and then by address ascending (R846). -/
def Obligations.SpritesAreDrawnInOrder : Prop :=
  ∀ l : List Sprite,
    (spriteOrder l).Perm l ∧
    (spriteOrder l).Pairwise (fun o q => q.x.toNat < o.x.toNat ∨ (o.x = q.x ∧ o.addr ≤ q.addr))

/-- A press of a released button raises the Joypad line and ends STOPPED; a release only clears its button; a step's host moves are its first batch (log 7) (R800, R802, R613). -/
def Obligations.ButtonsRaiseTheJoypadLine : Prop :=
  ∀ (k : Button) (b : List HostMove) (bs : List (List HostMove)) (s : State),
    (s.joypad.btn.get k = true → press k s = s) ∧
    (s.joypad.btn.get k = false →
      press k s = { s with joypad := { s.joypad with btn := s.joypad.btn.put k true }, ifl := s.ifl ||| 0b10000,
                           run := if s.run = .stopped then .running else s.run }) ∧
    release k s = { s with joypad := { s.joypad with btn := s.joypad.btn.put k false } } ∧
    (∀ (q : Button) (v : Bool), (s.joypad.btn.put k v).get q = (if q = k then v else s.joypad.btn.get q)) ∧
    (s.hostMoves = [] → hostTurn s = s) ∧
    (s.hostMoves = b :: bs → hostTurn s = b.foldl hostMove { s with hostMoves := bs })

/-- The load refuses a cartridge by the first check that fails (R915, R916). -/
def Obligations.LoadChecksTheHeaderInOrder : Prop :=
  ∀ (img : List Byte) (init : Memory) (fb : List (List Argb)),
    let present : Prop := 0x150 ≤ img.length
    let logo : Prop := (img.drop 0x104).take 48 = Config.logo
    let sum : Prop := headerChecksum img = img.getD 0x14D 0
    let type : Prop := (img.getD 0x147 0).toNat ≤ 3
    let sizes : Prop := (img.getD 0x148 0).toNat ≤ 8 ∧ (img.getD 0x149 0).toNat ≤ 5
    (present → ((headerChecksum img).toNat + headerSum img) % 256 = 0) ∧
    (¬ present → load img init fb = .error .invalidHeader) ∧
    (present → ¬ logo → load img init fb = .error .invalidHeader) ∧
    (present → logo → ¬ sum → load img init fb = .error .invalidHeader) ∧
    (present → logo → sum → ¬ type → load img init fb = .error .unsupportedCartridgeType) ∧
    (present → logo → sum → type → ¬ sizes → load img init fb = .error .invalidHeader) ∧
    (present → logo → sum → type → sizes → ∃ s, load img init fb = .ok s)

/-- A loaded core has the reset values, the image as its ROM and the RAM its header gives (R66, R900, R911, R912, R913). -/
def Obligations.LoadResetsTheCore : Prop :=
  ∀ (img : List Byte) (init : Memory) (fb : List (List Argb)) (s : State), load img init fb = .ok s →
    s.regs = { a := 0x01, f := ⟨true, false, true, true⟩, b := 0x00, c := 0x13, d := 0x00, e := 0xD8, h := 0x01, l := 0x4D,
               sp := 0xFFFE, pc := 0x0100 } ∧
    s.ime = false ∧ s.imePending = .none ∧ s.run = .running ∧ s.haltRepeat = false ∧ s.faultRec = .none ∧
    s.ie = 0x00 ∧ s.ifl = 0x01 ∧ busRead s 0xFF0F = 0xE1 ∧
    s.joypad.selButtons = false ∧ s.joypad.selDirs = false ∧ (∀ k, s.joypad.btn.get k = false) ∧ busRead s 0xFF00 = 0xCF ∧
    s.timer = { div := 0xAB, divSub := 0, tima := 0x00, tma := 0x00, timaSub := 0, enable := false, sel := 0 } ∧ busRead s 0xFF07 = 0xF8 ∧
    s.ppu = { lcdc := 0x91, statHi := 0, scy := 0x00, scx := 0x00, ly := 0, lyc := 0x00, dma := 0xFF, bgp := 0xFC, obp0 := 0xFF, obp1 := 0xFF,
              wy := 0x00, wx := 0x00, lineCyc := 0, mode := .oamScan, spr := snapshot s.mem, fb := fb } ∧
    busRead s 0xFF41 = 0x86 ∧
    s.cart.kind = (if img.getD 0x147 0 = 0 then .romOnly else .mbc1) ∧ s.cart.romSize = img.length ∧
    s.cart.nrom = 2 * 2 ^ (img.getD 0x148 0).toNat ∧
    s.cart.ramSize = (if img.getD 0x147 0 = 2 ∨ img.getD 0x147 0 = 3 then
      [0, 2048, 8192, 32768, 131072, 65536].getD (img.getD 0x149 0).toNat 0 else 0) ∧
    s.cart.ramEn = false ∧ s.cart.bankLo = 1 ∧ s.cart.bankHi = 0 ∧ s.cart.modeLatch = false ∧
    (∀ k, k < img.length → s.mem.read .cartRom k = img.getD k 0) ∧ (∀ r, r ≠ .cartRom → s.mem.cells r = init.cells r)

/-- The state after reset meets the invariant (R66, R48, R62). -/
def Obligations.ResetStateMeetsTheInvariant : Prop :=
  State.reset.Inv

/-- A loaded core meets the invariant (R900, R66, R48). -/
def Obligations.LoadedStateMeetsTheInvariant : Prop :=
  ∀ (img : List Byte) (init : Memory) (fb : List (List Argb)) (s : State), load img init fb = .ok s →
    init.wf → fixedWithin init → Cells.within init.cartRam s.cart.ramSize → fbShape fb → s.Inv

/-- Every step keeps the invariant (R600, R820, R152, R65, R48, R751). -/
def Obligations.EveryStepKeepsTheInvariant : Prop :=
  ∀ s t : State, s.Inv → step s = .next t → t.Inv

/-- A tick that is enabled always answers a next state (R600, R603, R104, R730). -/
def Obligations.EnabledTicksAlwaysComplete : Prop :=
  ∀ s : State, ((hostTurn s).run = .running ∨ (hostTurn s).run = .halted) → ∃ t, step s = .next t

/-- No step changes the cartridge image or what the load fixed (R162, R150, R48, R900). -/
def Obligations.NothingChangesTheCartridgeImage : Prop :=
  ∀ s t : State, step s = .next t →
    t.mem.cartRom = s.mem.cartRom ∧ t.cart.kind = s.cart.kind ∧ t.cart.romSize = s.cart.romSize ∧ t.cart.nrom = s.cart.nrom ∧
      t.cart.ramSize = s.cart.ramSize

/-- A recorded fault is never cleared; after it a step does the host's moves alone (the model's choice, log 8): only the buttons and IF's Joypad bit can change (R65, R620, R731, R800, R802). -/
def Obligations.RecordedFaultIsNeverCleared : Prop :=
  ∀ s t : State, s.Inv → s.faultRec ≠ .none → step s = .next t →
    t = hostTurn s ∧
    t.faultRec = s.faultRec ∧ t.run = .locked ∧ t.regs = s.regs ∧ t.ime = s.ime ∧ t.imePending = s.imePending ∧
      t.haltRepeat = s.haltRepeat ∧ t.mem = s.mem ∧ t.ie = s.ie ∧ t.cart = s.cart ∧ t.timer = s.timer ∧ t.ppu = s.ppu ∧
      t.joypad.selButtons = s.joypad.selButtons ∧ t.joypad.selDirs = s.joypad.selDirs ∧
      (t.ifl = s.ifl ∨ t.ifl = s.ifl ||| 0b10000) ∧ t.cycles = s.cycles ∧ t.opAddr = s.opAddr

/-- The framebuffer is output only: it influences nothing (R49). -/
def Obligations.FramebufferIsOutputOnly : Prop :=
  ∀ s u : State, withoutFb s = withoutFb u →
    match step s, step u with
    | .next s', .next u' => withoutFb s' = withoutFb u'
    | .fault f, .fault g => f = g
    | .refused f, .refused g => f = g
    | _, _ => False

/-- Decoding the encoding of any well-formed instruction gives it back (R200, R201, R202, R207, R213). -/
def Obligations.DecodingAnEncodingGivesItBack : Prop :=
  ∀ (i : Instr) (rest : List Byte), i.wellFormed = true → decode (encode i ++ rest) = .ok (i, rest)

/-- Every three bytes begin with an instruction, and its encoding is the bytes it was read from (R211, R212, R213, R214). -/
def Obligations.EveryByteSequenceHasOneReading : Prop :=
  (∀ (bs rest : List Byte) (i : Instr), decode bs = .ok (i, rest) → i.wellFormed = true ∧ encode i ++ rest = bs) ∧
    (∀ (b0 b1 b2 : Byte) (rest : List Byte), ∃ i tail, decode (b0 :: b1 :: b2 :: rest) = .ok (i, tail))

/-- A few words decode to the instructions the opcode map gives (R210, R207, R211). -/
def Obligations.SomeWordsDecodeAsTheSpecSays : Prop :=
  decode [0x78] = .ok (.ldAB, []) ∧ decode [0x31, 0xFE, 0xFF] = .ok (.ldSpN16 0xFFFE, []) ∧ decode [0x8E] = .ok (.adcAAtHl, []) ∧
    decode [0x18, 0xFF] = .ok (.jrE8 (-1), []) ∧ decode [0xDC, 0x00, 0x40] = .ok (.callCA16 0x4000, []) ∧
    decode [0xCB, 0x7C] = .ok (.bit7H, []) ∧ decode [0x10, 0x00] = .ok (.stop 0x00, []) ∧ decode [0xD3] = .ok (.illegalD3, [])
end

