-- ==== Sys2Proof/Laws/Memory.lean ====
section
/-! SUPPORT. The laws of the memories: read after write, other indexes, and that every operation keeps the canonical form and the bounds. -/

namespace Sys2Proof.Machine

theorem Cells.read_nil (i : Nat) : Cells.read [] i = unlisted := rfl

/-- An index below every entry is unlisted. -/
theorem Cells.read_of_lt {cs : List Host.Cell} {i : Nat} (h : ∀ c ∈ cs, i < c.1) : Cells.read cs i = unlisted := by
  cases cs with
  | nil => rfl
  | cons c t =>
    have hc : i < c.1 := h c (List.mem_cons_self ..)
    simp [Cells.read, Nat.ne_of_lt hc, hc]

theorem Cells.read_write_same {cs : List Host.Cell} (h : Cells.wf cs) (i : Nat) (v : Byte) :
    Cells.read (Cells.write cs i v) i = v := by
  induction cs with
  | nil => by_cases hv : v = unlisted <;> simp [Cells.write, Cells.read, hv]
  | cons c t ih =>
    obtain ⟨j, b⟩ := c
    have ht : Cells.wf t := ⟨(List.pairwise_cons.1 h.1).2, fun c hc => h.2 c (List.mem_cons_of_mem _ hc)⟩
    have hj : ∀ c ∈ t, j < c.1 := (List.pairwise_cons.1 h.1).1
    by_cases h1 : i < j
    · by_cases hv : v = unlisted <;> simp [Cells.write, Cells.read, h1, hv, Nat.ne_of_lt h1]
    · by_cases h2 : i = j
      · subst h2
        by_cases hv : v = unlisted
        · simp [Cells.write, hv, Cells.read_of_lt hj]
        · simp [Cells.write, Cells.read, hv]
      · simp [Cells.write, Cells.read, h1, h2, ih ht]

theorem Cells.read_write_other {cs : List Host.Cell} (h : Cells.wf cs) {i k : Nat} (hk : k ≠ i) (v : Byte) :
    Cells.read (Cells.write cs i v) k = Cells.read cs k := by
  induction cs with
  | nil => by_cases hv : v = unlisted <;> simp [Cells.write, Cells.read, hv, hk]
  | cons c t ih =>
    obtain ⟨j, b⟩ := c
    have ht : Cells.wf t := ⟨(List.pairwise_cons.1 h.1).2, fun c hc => h.2 c (List.mem_cons_of_mem _ hc)⟩
    have hj : ∀ c ∈ t, j < c.1 := (List.pairwise_cons.1 h.1).1
    by_cases h1 : i < j
    · by_cases hv : v = unlisted
      · simp [Cells.write, h1, hv]
      · by_cases hki : k < i
        · have : k < j := by omega
          simp [Cells.write, Cells.read, h1, hv, hk, hki, this, Nat.ne_of_lt this]
        · simp [Cells.write, Cells.read, h1, hv, hk, hki]
    · by_cases h2 : i = j
      · subst h2
        by_cases hv : v = unlisted
        · by_cases hki : k < i
          · have : Cells.read t k = unlisted := Cells.read_of_lt fun c hc => lt_trans hki (hj c hc)
            simp [Cells.write, Cells.read, hv, hk, hki, this]
          · simp [Cells.write, Cells.read, hv, hk, hki]
        · simp [Cells.write, Cells.read, hv, hk]
      · by_cases hkj : k = j <;> simp [Cells.write, Cells.read, h1, h2, hkj, ih ht]

/-- An entry after a write is the written one or was there before. -/
theorem Cells.mem_write {cs : List Host.Cell} {i : Nat} {v : Byte} {c : Host.Cell} (hc : c ∈ Cells.write cs i v) :
    (c = (i, v) ∧ v ≠ unlisted) ∨ c ∈ cs := by
  induction cs with
  | nil =>
    by_cases hv : v = unlisted
    · simp [Cells.write, hv] at hc
    · exact .inl ⟨by simpa [Cells.write, hv] using hc, hv⟩
  | cons d t ih =>
    obtain ⟨j, b⟩ := d
    unfold Cells.write at hc
    by_cases hv : v = unlisted <;> split_ifs at hc <;> simp only [List.mem_cons] at hc ⊢ <;> tauto

theorem Cells.write_wf {cs : List Host.Cell} (h : Cells.wf cs) (i : Nat) (v : Byte) : Cells.wf (Cells.write cs i v) := by
  refine ⟨?_, fun c hc => ?_⟩
  · induction cs with
    | nil => by_cases hv : v = unlisted <;> simp [Cells.write, hv]
    | cons c t ih =>
      obtain ⟨j, b⟩ := c
      have ht : Cells.wf t := ⟨(List.pairwise_cons.1 h.1).2, fun c hc => h.2 c (List.mem_cons_of_mem _ hc)⟩
      have hj : ∀ c ∈ t, j < c.1 := (List.pairwise_cons.1 h.1).1
      unfold Cells.write
      split_ifs with h1 hv h2 hv
      · exact h.1
      · exact List.pairwise_cons.2 ⟨fun c hc => by
          rcases List.mem_cons.1 hc with rfl | hc
          · exact h1
          · exact lt_trans h1 (hj c hc), h.1⟩
      · exact ht.1
      · subst h2
        exact List.pairwise_cons.2 ⟨hj, ht.1⟩
      · refine List.pairwise_cons.2 ⟨fun c hc => ?_, ih ht⟩
        rcases Cells.mem_write hc with ⟨rfl, -⟩ | hc
        · show j < i
          omega
        · exact hj c hc
  · rcases Cells.mem_write hc with ⟨rfl, hv⟩ | hc
    · exact hv
    · exact h.2 c hc

theorem Cells.write_within {cs : List Host.Cell} {n i : Nat} (h : Cells.within cs n) (hi : i < n) (v : Byte) :
    Cells.within (Cells.write cs i v) n := by
  intro c hc
  rcases Cells.mem_write hc with ⟨rfl, -⟩ | hc
  · exact hi
  · exact h c hc

theorem Cells.mem_ofBytes {bs : List Byte} {i : Nat} {c : Host.Cell} (hc : c ∈ Cells.ofBytes i bs) :
    i ≤ c.1 ∧ c.1 < i + bs.length ∧ c.2 ≠ unlisted := by
  induction bs generalizing i with
  | nil => simp [Cells.ofBytes] at hc
  | cons b t ih =>
    unfold Cells.ofBytes at hc
    by_cases hb : b = unlisted
    · rw [if_pos hb] at hc
      have := ih hc
      simp only [List.length_cons]
      exact ⟨by omega, by omega, this.2.2⟩
    · rw [if_neg hb] at hc
      rcases List.mem_cons.1 hc with rfl | hc
      · exact ⟨le_refl _, by simp, hb⟩
      · have := ih hc
        simp only [List.length_cons]
        exact ⟨by omega, by omega, this.2.2⟩

theorem Cells.ofBytes_wf (i : Nat) (bs : List Byte) : Cells.wf (Cells.ofBytes i bs) := by
  refine ⟨?_, fun c hc => (Cells.mem_ofBytes hc).2.2⟩
  induction bs generalizing i with
  | nil => simp [Cells.ofBytes]
  | cons b t ih =>
    unfold Cells.ofBytes
    split_ifs
    · exact ih (i + 1)
    · exact List.pairwise_cons.2 ⟨fun c hc => (Cells.mem_ofBytes hc).1, ih (i + 1)⟩

theorem Cells.ofBytes_within (bs : List Byte) : Cells.within (Cells.ofBytes 0 bs) bs.length := by
  intro c hc
  simpa using (Cells.mem_ofBytes hc).2.1

theorem Cells.read_ofBytes (i : Nat) (bs : List Byte) (k : Nat) :
    Cells.read (Cells.ofBytes i bs) (i + k) = bs.getD k unlisted := by
  induction bs generalizing i k with
  | nil => simp [Cells.ofBytes, Cells.read]
  | cons b t ih =>
    have hlow : Cells.read (Cells.ofBytes (i + 1) t) i = unlisted :=
      Cells.read_of_lt fun c hc => (Cells.mem_ofBytes hc).1
    cases k with
    | zero => by_cases hb : b = unlisted <;> simp [Cells.ofBytes, Cells.read, hb, hlow]
    | succ k =>
      have := ih (i + 1) k
      rw [show i + 1 + k = i + (k + 1) by omega] at this
      by_cases hb : b = unlisted <;> simp [Cells.ofBytes, Cells.read, hb, this]

@[simp] theorem Memory.cells_setCells_same (m : Memory) (r : Region) (cs : List Host.Cell) : (m.setCells r cs).cells r = cs := by
  cases r <;> rfl

theorem Memory.cells_setCells_other (m : Memory) {r q : Region} (h : q ≠ r) (cs : List Host.Cell) :
    (m.setCells r cs).cells q = m.cells q := by
  cases r <;> cases q <;> first | rfl | exact absurd rfl h

/-- The canonical form, array by array. -/
theorem Memory.wf_iff (m : Memory) : m.wf ↔ ∀ r, Cells.wf (m.cells r) := by
  constructor
  · rintro ⟨h1, h2, h3, h4, h5, h6, h7⟩ r
    cases r <;> assumption
  · intro h
    exact ⟨h .vram, h .wram, h .oam, h .hram, h .audio, h .cartRam, h .cartRom⟩

/-- The size of an array, the cartridge's given. -/
def Region.size (ramSize romSize : Nat) (r : Region) : Nat :=
  match r with
  | .vram => 8192
  | .wram => 8192
  | .oam => 160
  | .hram => 127
  | .audio => 48
  | .cartRam => ramSize
  | .cartRom => romSize

/-- The bounds, array by array. -/
theorem Memory.within_iff (m : Memory) (a b : Nat) : m.within a b ↔ ∀ r, Cells.within (m.cells r) (r.size a b) := by
  constructor
  · rintro ⟨h1, h2, h3, h4, h5, h6, h7⟩ r
    cases r <;> assumption
  · intro h
    exact ⟨h .vram, h .wram, h .oam, h .hram, h .audio, h .cartRam, h .cartRom⟩

theorem Memory.read_write_same {m : Memory} (h : m.wf) (r : Region) (i : Nat) (v : Byte) : (m.write r i v).read r i = v := by
  simp [Memory.read, Memory.write, Cells.read_write_same ((m.wf_iff).1 h r)]

theorem Memory.read_write_other {m : Memory} (h : m.wf) {r q : Region} {i k : Nat} (hne : (q, k) ≠ (r, i)) (v : Byte) :
    (m.write r i v).read q k = m.read q k := by
  by_cases hq : q = r
  · subst hq
    have hk : k ≠ i := fun e => hne (by rw [e])
    simp [Memory.read, Memory.write, Cells.read_write_other ((m.wf_iff).1 h q) hk]
  · simp [Memory.read, Memory.write, Memory.cells_setCells_other m hq]

/-- The cells of an array after a write to it or to another. -/
theorem Memory.cells_write (m : Memory) (r q : Region) (i : Nat) (v : Byte) :
    (m.write r i v).cells q = if q = r then Cells.write (m.cells r) i v else m.cells q := by
  by_cases hq : q = r
  · subst hq
    simp [Memory.write]
  · simp [Memory.write, hq, Memory.cells_setCells_other m hq]

theorem Memory.write_wf {m : Memory} (h : m.wf) (r : Region) (i : Nat) (v : Byte) : (m.write r i v).wf := by
  rw [Memory.wf_iff] at h ⊢
  intro q
  rw [Memory.cells_write]
  split_ifs with hq
  · exact Cells.write_wf (h r) i v
  · exact h q

theorem Memory.write_within {m : Memory} {a b : Nat} (h : m.within a b) {r : Region} {i : Nat} (hi : i < r.size a b) (v : Byte) :
    (m.write r i v).within a b := by
  rw [Memory.within_iff] at h ⊢
  intro q
  rw [Memory.cells_write]
  split_ifs with hq
  · subst hq
    exact Cells.write_within (h q) hi v
  · exact h q

theorem Memory.empty_wf : Memory.empty.wf := by decide

theorem Memory.empty_within (a b : Nat) : Memory.empty.within a b := by
  simp [Memory.within, Memory.empty, Cells.within]

end Sys2Proof.Machine
end

