-- ==== Sys2Proof/Laws/State.lean ====
section
/-! SUPPORT. One lemma per field per update of State, each true by rfl, so that no proof unfolds a record update. -/

namespace Sys2Proof.Machine

@[simp] theorem State.setReg_ime (s : State) (r : Reg8) (v : Byte) : (s.setReg r v).ime = s.ime := by cases r <;> rfl
@[simp] theorem State.setReg_imePending (s : State) (r : Reg8) (v : Byte) : (s.setReg r v).imePending = s.imePending := by cases r <;> rfl
@[simp] theorem State.setReg_run (s : State) (r : Reg8) (v : Byte) : (s.setReg r v).run = s.run := by cases r <;> rfl
@[simp] theorem State.setReg_haltRepeat (s : State) (r : Reg8) (v : Byte) : (s.setReg r v).haltRepeat = s.haltRepeat := by cases r <;> rfl
@[simp] theorem State.setReg_faultRec (s : State) (r : Reg8) (v : Byte) : (s.setReg r v).faultRec = s.faultRec := by cases r <;> rfl
@[simp] theorem State.setReg_ie (s : State) (r : Reg8) (v : Byte) : (s.setReg r v).ie = s.ie := by cases r <;> rfl
@[simp] theorem State.setReg_ifl (s : State) (r : Reg8) (v : Byte) : (s.setReg r v).ifl = s.ifl := by cases r <;> rfl
@[simp] theorem State.setReg_mem (s : State) (r : Reg8) (v : Byte) : (s.setReg r v).mem = s.mem := by cases r <;> rfl
@[simp] theorem State.setReg_cart (s : State) (r : Reg8) (v : Byte) : (s.setReg r v).cart = s.cart := by cases r <;> rfl
@[simp] theorem State.setReg_timer (s : State) (r : Reg8) (v : Byte) : (s.setReg r v).timer = s.timer := by cases r <;> rfl
@[simp] theorem State.setReg_ppu (s : State) (r : Reg8) (v : Byte) : (s.setReg r v).ppu = s.ppu := by cases r <;> rfl
@[simp] theorem State.setReg_joypad (s : State) (r : Reg8) (v : Byte) : (s.setReg r v).joypad = s.joypad := by cases r <;> rfl
@[simp] theorem State.setReg_cycles (s : State) (r : Reg8) (v : Byte) : (s.setReg r v).cycles = s.cycles := by cases r <;> rfl
@[simp] theorem State.setReg_opAddr (s : State) (r : Reg8) (v : Byte) : (s.setReg r v).opAddr = s.opAddr := by cases r <;> rfl
@[simp] theorem State.setReg_hostMoves (s : State) (r : Reg8) (v : Byte) : (s.setReg r v).hostMoves = s.hostMoves := by cases r <;> rfl
@[simp] theorem State.setReg_regs_f (s : State) (r : Reg8) (v : Byte) : (s.setReg r v).regs.f = s.regs.f := by cases r <;> rfl
@[simp] theorem State.setReg_regs_sp (s : State) (r : Reg8) (v : Byte) : (s.setReg r v).regs.sp = s.regs.sp := by cases r <;> rfl
@[simp] theorem State.setReg_regs_pc (s : State) (r : Reg8) (v : Byte) : (s.setReg r v).regs.pc = s.regs.pc := by cases r <;> rfl
@[simp] theorem State.reg_setReg_same (s : State) (r : Reg8) (v : Byte) : (s.setReg r v).reg r = v := by cases r <;> rfl
theorem State.reg_setReg_other (s : State) {r x : Reg8} (h : x ≠ r) (v : Byte) : (s.setReg r v).reg x = s.reg x := by
  cases r <;> cases x <;> first | rfl | exact absurd rfl h
@[simp] theorem State.setFlags_ime (s : State) (g : Flags) : (s.setFlags g).ime = s.ime := rfl
@[simp] theorem State.setFlags_imePending (s : State) (g : Flags) : (s.setFlags g).imePending = s.imePending := rfl
@[simp] theorem State.setFlags_run (s : State) (g : Flags) : (s.setFlags g).run = s.run := rfl
@[simp] theorem State.setFlags_haltRepeat (s : State) (g : Flags) : (s.setFlags g).haltRepeat = s.haltRepeat := rfl
@[simp] theorem State.setFlags_faultRec (s : State) (g : Flags) : (s.setFlags g).faultRec = s.faultRec := rfl
@[simp] theorem State.setFlags_ie (s : State) (g : Flags) : (s.setFlags g).ie = s.ie := rfl
@[simp] theorem State.setFlags_ifl (s : State) (g : Flags) : (s.setFlags g).ifl = s.ifl := rfl
@[simp] theorem State.setFlags_mem (s : State) (g : Flags) : (s.setFlags g).mem = s.mem := rfl
@[simp] theorem State.setFlags_cart (s : State) (g : Flags) : (s.setFlags g).cart = s.cart := rfl
@[simp] theorem State.setFlags_timer (s : State) (g : Flags) : (s.setFlags g).timer = s.timer := rfl
@[simp] theorem State.setFlags_ppu (s : State) (g : Flags) : (s.setFlags g).ppu = s.ppu := rfl
@[simp] theorem State.setFlags_joypad (s : State) (g : Flags) : (s.setFlags g).joypad = s.joypad := rfl
@[simp] theorem State.setFlags_cycles (s : State) (g : Flags) : (s.setFlags g).cycles = s.cycles := rfl
@[simp] theorem State.setFlags_opAddr (s : State) (g : Flags) : (s.setFlags g).opAddr = s.opAddr := rfl
@[simp] theorem State.setFlags_hostMoves (s : State) (g : Flags) : (s.setFlags g).hostMoves = s.hostMoves := rfl
@[simp] theorem State.setFlags_regs_a (s : State) (g : Flags) : (s.setFlags g).regs.a = s.regs.a := rfl
@[simp] theorem State.setFlags_regs_f (s : State) (g : Flags) : (s.setFlags g).regs.f = g := rfl
@[simp] theorem State.setFlags_regs_b (s : State) (g : Flags) : (s.setFlags g).regs.b = s.regs.b := rfl
@[simp] theorem State.setFlags_regs_c (s : State) (g : Flags) : (s.setFlags g).regs.c = s.regs.c := rfl
@[simp] theorem State.setFlags_regs_d (s : State) (g : Flags) : (s.setFlags g).regs.d = s.regs.d := rfl
@[simp] theorem State.setFlags_regs_e (s : State) (g : Flags) : (s.setFlags g).regs.e = s.regs.e := rfl
@[simp] theorem State.setFlags_regs_h (s : State) (g : Flags) : (s.setFlags g).regs.h = s.regs.h := rfl
@[simp] theorem State.setFlags_regs_l (s : State) (g : Flags) : (s.setFlags g).regs.l = s.regs.l := rfl
@[simp] theorem State.setFlags_regs_sp (s : State) (g : Flags) : (s.setFlags g).regs.sp = s.regs.sp := rfl
@[simp] theorem State.setFlags_regs_pc (s : State) (g : Flags) : (s.setFlags g).regs.pc = s.regs.pc := rfl
@[simp] theorem State.reg_setFlags (s : State) (g : Flags) (r : Reg8) : (s.setFlags g).reg r = s.reg r := by cases r <;> rfl
@[simp] theorem State.setSp_ime (s : State) (v : Word) : (s.setSp v).ime = s.ime := rfl
@[simp] theorem State.setSp_imePending (s : State) (v : Word) : (s.setSp v).imePending = s.imePending := rfl
@[simp] theorem State.setSp_run (s : State) (v : Word) : (s.setSp v).run = s.run := rfl
@[simp] theorem State.setSp_haltRepeat (s : State) (v : Word) : (s.setSp v).haltRepeat = s.haltRepeat := rfl
@[simp] theorem State.setSp_faultRec (s : State) (v : Word) : (s.setSp v).faultRec = s.faultRec := rfl
@[simp] theorem State.setSp_ie (s : State) (v : Word) : (s.setSp v).ie = s.ie := rfl
@[simp] theorem State.setSp_ifl (s : State) (v : Word) : (s.setSp v).ifl = s.ifl := rfl
@[simp] theorem State.setSp_mem (s : State) (v : Word) : (s.setSp v).mem = s.mem := rfl
@[simp] theorem State.setSp_cart (s : State) (v : Word) : (s.setSp v).cart = s.cart := rfl
@[simp] theorem State.setSp_timer (s : State) (v : Word) : (s.setSp v).timer = s.timer := rfl
@[simp] theorem State.setSp_ppu (s : State) (v : Word) : (s.setSp v).ppu = s.ppu := rfl
@[simp] theorem State.setSp_joypad (s : State) (v : Word) : (s.setSp v).joypad = s.joypad := rfl
@[simp] theorem State.setSp_cycles (s : State) (v : Word) : (s.setSp v).cycles = s.cycles := rfl
@[simp] theorem State.setSp_opAddr (s : State) (v : Word) : (s.setSp v).opAddr = s.opAddr := rfl
@[simp] theorem State.setSp_hostMoves (s : State) (v : Word) : (s.setSp v).hostMoves = s.hostMoves := rfl
@[simp] theorem State.setSp_regs_a (s : State) (v : Word) : (s.setSp v).regs.a = s.regs.a := rfl
@[simp] theorem State.setSp_regs_f (s : State) (v : Word) : (s.setSp v).regs.f = s.regs.f := rfl
@[simp] theorem State.setSp_regs_b (s : State) (v : Word) : (s.setSp v).regs.b = s.regs.b := rfl
@[simp] theorem State.setSp_regs_c (s : State) (v : Word) : (s.setSp v).regs.c = s.regs.c := rfl
@[simp] theorem State.setSp_regs_d (s : State) (v : Word) : (s.setSp v).regs.d = s.regs.d := rfl
@[simp] theorem State.setSp_regs_e (s : State) (v : Word) : (s.setSp v).regs.e = s.regs.e := rfl
@[simp] theorem State.setSp_regs_h (s : State) (v : Word) : (s.setSp v).regs.h = s.regs.h := rfl
@[simp] theorem State.setSp_regs_l (s : State) (v : Word) : (s.setSp v).regs.l = s.regs.l := rfl
@[simp] theorem State.setSp_regs_sp (s : State) (v : Word) : (s.setSp v).regs.sp = v := rfl
@[simp] theorem State.setSp_regs_pc (s : State) (v : Word) : (s.setSp v).regs.pc = s.regs.pc := rfl
@[simp] theorem State.reg_setSp (s : State) (v : Word) (r : Reg8) : (s.setSp v).reg r = s.reg r := by cases r <;> rfl
@[simp] theorem State.setPc_ime (s : State) (v : Addr) : (s.setPc v).ime = s.ime := rfl
@[simp] theorem State.setPc_imePending (s : State) (v : Addr) : (s.setPc v).imePending = s.imePending := rfl
@[simp] theorem State.setPc_run (s : State) (v : Addr) : (s.setPc v).run = s.run := rfl
@[simp] theorem State.setPc_haltRepeat (s : State) (v : Addr) : (s.setPc v).haltRepeat = s.haltRepeat := rfl
@[simp] theorem State.setPc_faultRec (s : State) (v : Addr) : (s.setPc v).faultRec = s.faultRec := rfl
@[simp] theorem State.setPc_ie (s : State) (v : Addr) : (s.setPc v).ie = s.ie := rfl
@[simp] theorem State.setPc_ifl (s : State) (v : Addr) : (s.setPc v).ifl = s.ifl := rfl
@[simp] theorem State.setPc_mem (s : State) (v : Addr) : (s.setPc v).mem = s.mem := rfl
@[simp] theorem State.setPc_cart (s : State) (v : Addr) : (s.setPc v).cart = s.cart := rfl
@[simp] theorem State.setPc_timer (s : State) (v : Addr) : (s.setPc v).timer = s.timer := rfl
@[simp] theorem State.setPc_ppu (s : State) (v : Addr) : (s.setPc v).ppu = s.ppu := rfl
@[simp] theorem State.setPc_joypad (s : State) (v : Addr) : (s.setPc v).joypad = s.joypad := rfl
@[simp] theorem State.setPc_cycles (s : State) (v : Addr) : (s.setPc v).cycles = s.cycles := rfl
@[simp] theorem State.setPc_opAddr (s : State) (v : Addr) : (s.setPc v).opAddr = s.opAddr := rfl
@[simp] theorem State.setPc_hostMoves (s : State) (v : Addr) : (s.setPc v).hostMoves = s.hostMoves := rfl
@[simp] theorem State.setPc_regs_a (s : State) (v : Addr) : (s.setPc v).regs.a = s.regs.a := rfl
@[simp] theorem State.setPc_regs_f (s : State) (v : Addr) : (s.setPc v).regs.f = s.regs.f := rfl
@[simp] theorem State.setPc_regs_b (s : State) (v : Addr) : (s.setPc v).regs.b = s.regs.b := rfl
@[simp] theorem State.setPc_regs_c (s : State) (v : Addr) : (s.setPc v).regs.c = s.regs.c := rfl
@[simp] theorem State.setPc_regs_d (s : State) (v : Addr) : (s.setPc v).regs.d = s.regs.d := rfl
@[simp] theorem State.setPc_regs_e (s : State) (v : Addr) : (s.setPc v).regs.e = s.regs.e := rfl
@[simp] theorem State.setPc_regs_h (s : State) (v : Addr) : (s.setPc v).regs.h = s.regs.h := rfl
@[simp] theorem State.setPc_regs_l (s : State) (v : Addr) : (s.setPc v).regs.l = s.regs.l := rfl
@[simp] theorem State.setPc_regs_sp (s : State) (v : Addr) : (s.setPc v).regs.sp = s.regs.sp := rfl
@[simp] theorem State.setPc_regs_pc (s : State) (v : Addr) : (s.setPc v).regs.pc = v := rfl
@[simp] theorem State.reg_setPc (s : State) (v : Addr) (r : Reg8) : (s.setPc v).reg r = s.reg r := by cases r <;> rfl
@[simp] theorem State.setPair_ime (s : State) (p : Pair) (v : Word) : (s.setPair p v).ime = s.ime := by cases p <;> rfl
@[simp] theorem State.setPair_imePending (s : State) (p : Pair) (v : Word) : (s.setPair p v).imePending = s.imePending := by cases p <;> rfl
@[simp] theorem State.setPair_run (s : State) (p : Pair) (v : Word) : (s.setPair p v).run = s.run := by cases p <;> rfl
@[simp] theorem State.setPair_haltRepeat (s : State) (p : Pair) (v : Word) : (s.setPair p v).haltRepeat = s.haltRepeat := by cases p <;> rfl
@[simp] theorem State.setPair_faultRec (s : State) (p : Pair) (v : Word) : (s.setPair p v).faultRec = s.faultRec := by cases p <;> rfl
@[simp] theorem State.setPair_ie (s : State) (p : Pair) (v : Word) : (s.setPair p v).ie = s.ie := by cases p <;> rfl
@[simp] theorem State.setPair_ifl (s : State) (p : Pair) (v : Word) : (s.setPair p v).ifl = s.ifl := by cases p <;> rfl
@[simp] theorem State.setPair_mem (s : State) (p : Pair) (v : Word) : (s.setPair p v).mem = s.mem := by cases p <;> rfl
@[simp] theorem State.setPair_cart (s : State) (p : Pair) (v : Word) : (s.setPair p v).cart = s.cart := by cases p <;> rfl
@[simp] theorem State.setPair_timer (s : State) (p : Pair) (v : Word) : (s.setPair p v).timer = s.timer := by cases p <;> rfl
@[simp] theorem State.setPair_ppu (s : State) (p : Pair) (v : Word) : (s.setPair p v).ppu = s.ppu := by cases p <;> rfl
@[simp] theorem State.setPair_joypad (s : State) (p : Pair) (v : Word) : (s.setPair p v).joypad = s.joypad := by cases p <;> rfl
@[simp] theorem State.setPair_cycles (s : State) (p : Pair) (v : Word) : (s.setPair p v).cycles = s.cycles := by cases p <;> rfl
@[simp] theorem State.setPair_opAddr (s : State) (p : Pair) (v : Word) : (s.setPair p v).opAddr = s.opAddr := by cases p <;> rfl
@[simp] theorem State.setPair_hostMoves (s : State) (p : Pair) (v : Word) : (s.setPair p v).hostMoves = s.hostMoves := by cases p <;> rfl
@[simp] theorem State.setPair_regs_a (s : State) (p : Pair) (v : Word) : (s.setPair p v).regs.a = s.regs.a := by cases p <;> rfl
@[simp] theorem State.setPair_regs_f (s : State) (p : Pair) (v : Word) : (s.setPair p v).regs.f = s.regs.f := by cases p <;> rfl
@[simp] theorem State.setPair_regs_pc (s : State) (p : Pair) (v : Word) : (s.setPair p v).regs.pc = s.regs.pc := by cases p <;> rfl
@[simp] theorem State.setStackPair_ime (s : State) (p : StackPair) (v : Word) : (s.setStackPair p v).ime = s.ime := by cases p <;> rfl
@[simp] theorem State.setStackPair_imePending (s : State) (p : StackPair) (v : Word) : (s.setStackPair p v).imePending = s.imePending := by cases p <;> rfl
@[simp] theorem State.setStackPair_run (s : State) (p : StackPair) (v : Word) : (s.setStackPair p v).run = s.run := by cases p <;> rfl
@[simp] theorem State.setStackPair_haltRepeat (s : State) (p : StackPair) (v : Word) : (s.setStackPair p v).haltRepeat = s.haltRepeat := by cases p <;> rfl
@[simp] theorem State.setStackPair_faultRec (s : State) (p : StackPair) (v : Word) : (s.setStackPair p v).faultRec = s.faultRec := by cases p <;> rfl
@[simp] theorem State.setStackPair_ie (s : State) (p : StackPair) (v : Word) : (s.setStackPair p v).ie = s.ie := by cases p <;> rfl
@[simp] theorem State.setStackPair_ifl (s : State) (p : StackPair) (v : Word) : (s.setStackPair p v).ifl = s.ifl := by cases p <;> rfl
@[simp] theorem State.setStackPair_mem (s : State) (p : StackPair) (v : Word) : (s.setStackPair p v).mem = s.mem := by cases p <;> rfl
@[simp] theorem State.setStackPair_cart (s : State) (p : StackPair) (v : Word) : (s.setStackPair p v).cart = s.cart := by cases p <;> rfl
@[simp] theorem State.setStackPair_timer (s : State) (p : StackPair) (v : Word) : (s.setStackPair p v).timer = s.timer := by cases p <;> rfl
@[simp] theorem State.setStackPair_ppu (s : State) (p : StackPair) (v : Word) : (s.setStackPair p v).ppu = s.ppu := by cases p <;> rfl
@[simp] theorem State.setStackPair_joypad (s : State) (p : StackPair) (v : Word) : (s.setStackPair p v).joypad = s.joypad := by cases p <;> rfl
@[simp] theorem State.setStackPair_cycles (s : State) (p : StackPair) (v : Word) : (s.setStackPair p v).cycles = s.cycles := by cases p <;> rfl
@[simp] theorem State.setStackPair_opAddr (s : State) (p : StackPair) (v : Word) : (s.setStackPair p v).opAddr = s.opAddr := by cases p <;> rfl
@[simp] theorem State.setStackPair_hostMoves (s : State) (p : StackPair) (v : Word) : (s.setStackPair p v).hostMoves = s.hostMoves := by cases p <;> rfl
@[simp] theorem State.setStackPair_regs_sp (s : State) (p : StackPair) (v : Word) : (s.setStackPair p v).regs.sp = s.regs.sp := by cases p <;> rfl
@[simp] theorem State.setStackPair_regs_pc (s : State) (p : StackPair) (v : Word) : (s.setStackPair p v).regs.pc = s.regs.pc := by cases p <;> rfl
@[simp] theorem State.took_regs (s : State) (n : Nat) : (s.took n).regs = s.regs := rfl
@[simp] theorem State.took_ime (s : State) (n : Nat) : (s.took n).ime = s.ime := rfl
@[simp] theorem State.took_imePending (s : State) (n : Nat) : (s.took n).imePending = s.imePending := rfl
@[simp] theorem State.took_run (s : State) (n : Nat) : (s.took n).run = s.run := rfl
@[simp] theorem State.took_haltRepeat (s : State) (n : Nat) : (s.took n).haltRepeat = s.haltRepeat := rfl
@[simp] theorem State.took_faultRec (s : State) (n : Nat) : (s.took n).faultRec = s.faultRec := rfl
@[simp] theorem State.took_ie (s : State) (n : Nat) : (s.took n).ie = s.ie := rfl
@[simp] theorem State.took_ifl (s : State) (n : Nat) : (s.took n).ifl = s.ifl := rfl
@[simp] theorem State.took_mem (s : State) (n : Nat) : (s.took n).mem = s.mem := rfl
@[simp] theorem State.took_cart (s : State) (n : Nat) : (s.took n).cart = s.cart := rfl
@[simp] theorem State.took_timer (s : State) (n : Nat) : (s.took n).timer = s.timer := rfl
@[simp] theorem State.took_ppu (s : State) (n : Nat) : (s.took n).ppu = s.ppu := rfl
@[simp] theorem State.took_joypad (s : State) (n : Nat) : (s.took n).joypad = s.joypad := rfl
@[simp] theorem State.took_cycles (s : State) (n : Nat) : (s.took n).cycles = n := rfl
@[simp] theorem State.took_opAddr (s : State) (n : Nat) : (s.took n).opAddr = s.opAddr := rfl
@[simp] theorem State.took_hostMoves (s : State) (n : Nat) : (s.took n).hostMoves = s.hostMoves := rfl
@[simp] theorem raiseInt_regs (line : Line) (s : State) : (raiseInt line s).regs = s.regs := rfl
@[simp] theorem acknowledge_regs (line : Line) (s : State) : (acknowledge line s).regs = s.regs := rfl
@[simp] theorem resetDiv_regs (s : State) : (resetDiv s).regs = s.regs := rfl
@[simp] theorem wake_regs (s : State) : (wake s).regs = s.regs := by unfold wake; split <;> rfl
@[simp] theorem applyPending_regs (s : State) : (applyPending s).regs = s.regs := by unfold applyPending; split <;> rfl
@[simp] theorem raiseInt_ime (line : Line) (s : State) : (raiseInt line s).ime = s.ime := rfl
@[simp] theorem acknowledge_ime (line : Line) (s : State) : (acknowledge line s).ime = s.ime := rfl
@[simp] theorem resetDiv_ime (s : State) : (resetDiv s).ime = s.ime := rfl
@[simp] theorem wake_ime (s : State) : (wake s).ime = s.ime := by unfold wake; split <;> rfl
@[simp] theorem fetched_ime (s : State) : (fetched s).ime = s.ime := by unfold fetched; split <;> rfl
@[simp] theorem popped_ime (s : State) : (popped s).ime = s.ime := rfl
@[simp] theorem raiseInt_imePending (line : Line) (s : State) : (raiseInt line s).imePending = s.imePending := rfl
@[simp] theorem acknowledge_imePending (line : Line) (s : State) : (acknowledge line s).imePending = s.imePending := rfl
@[simp] theorem resetDiv_imePending (s : State) : (resetDiv s).imePending = s.imePending := rfl
@[simp] theorem wake_imePending (s : State) : (wake s).imePending = s.imePending := by unfold wake; split <;> rfl
@[simp] theorem fetched_imePending (s : State) : (fetched s).imePending = s.imePending := by unfold fetched; split <;> rfl
@[simp] theorem popped_imePending (s : State) : (popped s).imePending = s.imePending := rfl
@[simp] theorem raiseInt_run (line : Line) (s : State) : (raiseInt line s).run = s.run := rfl
@[simp] theorem acknowledge_run (line : Line) (s : State) : (acknowledge line s).run = s.run := rfl
@[simp] theorem resetDiv_run (s : State) : (resetDiv s).run = s.run := rfl
@[simp] theorem applyPending_run (s : State) : (applyPending s).run = s.run := by unfold applyPending; split <;> rfl
@[simp] theorem fetched_run (s : State) : (fetched s).run = s.run := by unfold fetched; split <;> rfl
@[simp] theorem popped_run (s : State) : (popped s).run = s.run := rfl
@[simp] theorem raiseInt_haltRepeat (line : Line) (s : State) : (raiseInt line s).haltRepeat = s.haltRepeat := rfl
@[simp] theorem acknowledge_haltRepeat (line : Line) (s : State) : (acknowledge line s).haltRepeat = s.haltRepeat := rfl
@[simp] theorem resetDiv_haltRepeat (s : State) : (resetDiv s).haltRepeat = s.haltRepeat := rfl
@[simp] theorem wake_haltRepeat (s : State) : (wake s).haltRepeat = s.haltRepeat := by unfold wake; split <;> rfl
@[simp] theorem applyPending_haltRepeat (s : State) : (applyPending s).haltRepeat = s.haltRepeat := by unfold applyPending; split <;> rfl
@[simp] theorem popped_haltRepeat (s : State) : (popped s).haltRepeat = s.haltRepeat := rfl
@[simp] theorem raiseInt_faultRec (line : Line) (s : State) : (raiseInt line s).faultRec = s.faultRec := rfl
@[simp] theorem acknowledge_faultRec (line : Line) (s : State) : (acknowledge line s).faultRec = s.faultRec := rfl
@[simp] theorem resetDiv_faultRec (s : State) : (resetDiv s).faultRec = s.faultRec := rfl
@[simp] theorem wake_faultRec (s : State) : (wake s).faultRec = s.faultRec := by unfold wake; split <;> rfl
@[simp] theorem applyPending_faultRec (s : State) : (applyPending s).faultRec = s.faultRec := by unfold applyPending; split <;> rfl
@[simp] theorem fetched_faultRec (s : State) : (fetched s).faultRec = s.faultRec := by unfold fetched; split <;> rfl
@[simp] theorem popped_faultRec (s : State) : (popped s).faultRec = s.faultRec := rfl
@[simp] theorem raiseInt_ie (line : Line) (s : State) : (raiseInt line s).ie = s.ie := rfl
@[simp] theorem acknowledge_ie (line : Line) (s : State) : (acknowledge line s).ie = s.ie := rfl
@[simp] theorem resetDiv_ie (s : State) : (resetDiv s).ie = s.ie := rfl
@[simp] theorem wake_ie (s : State) : (wake s).ie = s.ie := by unfold wake; split <;> rfl
@[simp] theorem applyPending_ie (s : State) : (applyPending s).ie = s.ie := by unfold applyPending; split <;> rfl
@[simp] theorem fetched_ie (s : State) : (fetched s).ie = s.ie := by unfold fetched; split <;> rfl
@[simp] theorem popped_ie (s : State) : (popped s).ie = s.ie := rfl
@[simp] theorem resetDiv_ifl (s : State) : (resetDiv s).ifl = s.ifl := rfl
@[simp] theorem wake_ifl (s : State) : (wake s).ifl = s.ifl := by unfold wake; split <;> rfl
@[simp] theorem applyPending_ifl (s : State) : (applyPending s).ifl = s.ifl := by unfold applyPending; split <;> rfl
@[simp] theorem fetched_ifl (s : State) : (fetched s).ifl = s.ifl := by unfold fetched; split <;> rfl
@[simp] theorem popped_ifl (s : State) : (popped s).ifl = s.ifl := rfl
@[simp] theorem raiseInt_mem (line : Line) (s : State) : (raiseInt line s).mem = s.mem := rfl
@[simp] theorem acknowledge_mem (line : Line) (s : State) : (acknowledge line s).mem = s.mem := rfl
@[simp] theorem resetDiv_mem (s : State) : (resetDiv s).mem = s.mem := rfl
@[simp] theorem wake_mem (s : State) : (wake s).mem = s.mem := by unfold wake; split <;> rfl
@[simp] theorem applyPending_mem (s : State) : (applyPending s).mem = s.mem := by unfold applyPending; split <;> rfl
@[simp] theorem fetched_mem (s : State) : (fetched s).mem = s.mem := by unfold fetched; split <;> rfl
@[simp] theorem popped_mem (s : State) : (popped s).mem = s.mem := rfl
@[simp] theorem raiseInt_cart (line : Line) (s : State) : (raiseInt line s).cart = s.cart := rfl
@[simp] theorem acknowledge_cart (line : Line) (s : State) : (acknowledge line s).cart = s.cart := rfl
@[simp] theorem resetDiv_cart (s : State) : (resetDiv s).cart = s.cart := rfl
@[simp] theorem wake_cart (s : State) : (wake s).cart = s.cart := by unfold wake; split <;> rfl
@[simp] theorem applyPending_cart (s : State) : (applyPending s).cart = s.cart := by unfold applyPending; split <;> rfl
@[simp] theorem fetched_cart (s : State) : (fetched s).cart = s.cart := by unfold fetched; split <;> rfl
@[simp] theorem popped_cart (s : State) : (popped s).cart = s.cart := rfl
@[simp] theorem raiseInt_timer (line : Line) (s : State) : (raiseInt line s).timer = s.timer := rfl
@[simp] theorem acknowledge_timer (line : Line) (s : State) : (acknowledge line s).timer = s.timer := rfl
@[simp] theorem wake_timer (s : State) : (wake s).timer = s.timer := by unfold wake; split <;> rfl
@[simp] theorem applyPending_timer (s : State) : (applyPending s).timer = s.timer := by unfold applyPending; split <;> rfl
@[simp] theorem fetched_timer (s : State) : (fetched s).timer = s.timer := by unfold fetched; split <;> rfl
@[simp] theorem popped_timer (s : State) : (popped s).timer = s.timer := rfl
@[simp] theorem raiseInt_ppu (line : Line) (s : State) : (raiseInt line s).ppu = s.ppu := rfl
@[simp] theorem acknowledge_ppu (line : Line) (s : State) : (acknowledge line s).ppu = s.ppu := rfl
@[simp] theorem resetDiv_ppu (s : State) : (resetDiv s).ppu = s.ppu := rfl
@[simp] theorem wake_ppu (s : State) : (wake s).ppu = s.ppu := by unfold wake; split <;> rfl
@[simp] theorem applyPending_ppu (s : State) : (applyPending s).ppu = s.ppu := by unfold applyPending; split <;> rfl
@[simp] theorem fetched_ppu (s : State) : (fetched s).ppu = s.ppu := by unfold fetched; split <;> rfl
@[simp] theorem popped_ppu (s : State) : (popped s).ppu = s.ppu := rfl
@[simp] theorem raiseInt_joypad (line : Line) (s : State) : (raiseInt line s).joypad = s.joypad := rfl
@[simp] theorem acknowledge_joypad (line : Line) (s : State) : (acknowledge line s).joypad = s.joypad := rfl
@[simp] theorem resetDiv_joypad (s : State) : (resetDiv s).joypad = s.joypad := rfl
@[simp] theorem wake_joypad (s : State) : (wake s).joypad = s.joypad := by unfold wake; split <;> rfl
@[simp] theorem applyPending_joypad (s : State) : (applyPending s).joypad = s.joypad := by unfold applyPending; split <;> rfl
@[simp] theorem fetched_joypad (s : State) : (fetched s).joypad = s.joypad := by unfold fetched; split <;> rfl
@[simp] theorem popped_joypad (s : State) : (popped s).joypad = s.joypad := rfl
@[simp] theorem raiseInt_cycles (line : Line) (s : State) : (raiseInt line s).cycles = s.cycles := rfl
@[simp] theorem acknowledge_cycles (line : Line) (s : State) : (acknowledge line s).cycles = s.cycles := rfl
@[simp] theorem resetDiv_cycles (s : State) : (resetDiv s).cycles = s.cycles := rfl
@[simp] theorem wake_cycles (s : State) : (wake s).cycles = s.cycles := by unfold wake; split <;> rfl
@[simp] theorem applyPending_cycles (s : State) : (applyPending s).cycles = s.cycles := by unfold applyPending; split <;> rfl
@[simp] theorem fetched_cycles (s : State) : (fetched s).cycles = s.cycles := by unfold fetched; split <;> rfl
@[simp] theorem popped_cycles (s : State) : (popped s).cycles = s.cycles := rfl
@[simp] theorem raiseInt_opAddr (line : Line) (s : State) : (raiseInt line s).opAddr = s.opAddr := rfl
@[simp] theorem acknowledge_opAddr (line : Line) (s : State) : (acknowledge line s).opAddr = s.opAddr := rfl
@[simp] theorem resetDiv_opAddr (s : State) : (resetDiv s).opAddr = s.opAddr := rfl
@[simp] theorem wake_opAddr (s : State) : (wake s).opAddr = s.opAddr := by unfold wake; split <;> rfl
@[simp] theorem applyPending_opAddr (s : State) : (applyPending s).opAddr = s.opAddr := by unfold applyPending; split <;> rfl
@[simp] theorem fetched_opAddr (s : State) : (fetched s).opAddr = s.opAddr := by unfold fetched; split <;> rfl
@[simp] theorem popped_opAddr (s : State) : (popped s).opAddr = s.opAddr := rfl
@[simp] theorem raiseInt_hostMoves (line : Line) (s : State) : (raiseInt line s).hostMoves = s.hostMoves := rfl
@[simp] theorem acknowledge_hostMoves (line : Line) (s : State) : (acknowledge line s).hostMoves = s.hostMoves := rfl
@[simp] theorem resetDiv_hostMoves (s : State) : (resetDiv s).hostMoves = s.hostMoves := rfl
@[simp] theorem wake_hostMoves (s : State) : (wake s).hostMoves = s.hostMoves := by unfold wake; split <;> rfl
@[simp] theorem applyPending_hostMoves (s : State) : (applyPending s).hostMoves = s.hostMoves := by unfold applyPending; split <;> rfl
@[simp] theorem fetched_hostMoves (s : State) : (fetched s).hostMoves = s.hostMoves := by unfold fetched; split <;> rfl
@[simp] theorem popped_hostMoves (s : State) : (popped s).hostMoves = s.hostMoves := rfl

/-- The two bytes of a 16-bit value put together again. -/
@[simp] theorem imm16_bytes (v : Word) : imm16 (lowByte v) (highByte v) = v := by
  apply BitVec.eq_of_toNat_eq
  simp [imm16, lowByte, highByte, Nat.shiftRight_eq_div_pow]
  omega

@[simp] theorem lowByte_imm16 (lo hi : Byte) : lowByte (imm16 lo hi) = lo := by
  apply BitVec.eq_of_toNat_eq
  simp [imm16, lowByte]
  omega

@[simp] theorem highByte_imm16 (lo hi : Byte) : highByte (imm16 lo hi) = hi := by
  apply BitVec.eq_of_toNat_eq
  simp [imm16, highByte, Nat.shiftRight_eq_div_pow]
  omega

/-- A pair reads back what was written to it. -/
@[simp] theorem State.pair_setPair_same (s : State) (p : Pair) (v : Word) : (s.setPair p v).pair p = v := by
  cases p <;> simp [State.setPair, State.pair]

/-- F read back from its byte. -/
@[simp] theorem Flags.ofByte_toByte (f : Flags) : Flags.ofByte f.toByte = f := by
  obtain ⟨z, n, h, c⟩ := f
  revert z n h c
  decide

end Sys2Proof.Machine
end

