-- ==== Sys2Proof/Laws/Ops.lean ====
section
/-! SUPPORT. What each shared operation can do, said once: what the bus, the stack, the poll, the devices and the host leave unchanged, and that they keep the memories in form. -/

namespace Sys2Proof.Machine

/-! ## Reading the bus -/

/-- A read depends only on the memories, the cartridge and the devices (20_memory.md R110). -/
theorem busRead_congr {s t : State} (hm : t.mem = s.mem) (hc : t.cart = s.cart) (ht : t.timer = s.timer) (hp : t.ppu = s.ppu)
    (hj : t.joypad = s.joypad) (hi : t.ifl = s.ifl) (he : t.ie = s.ie) (a : Addr) : busRead t a = busRead s a := by
  unfold busRead ioRead
  rw [hm, hc, ht, hp, hj, hi, he]

@[simp] theorem busRead_setReg (s : State) (r : Reg8) (v : Byte) (x : Addr) : busRead (s.setReg r v) x = busRead s x :=
  busRead_congr (by simp) (by simp) (by simp) (by simp) (by simp) (by simp) (by simp) x

@[simp] theorem busRead_setFlags (s : State) (f : Flags) (x : Addr) : busRead (s.setFlags f) x = busRead s x :=
  busRead_congr (by simp) (by simp) (by simp) (by simp) (by simp) (by simp) (by simp) x

@[simp] theorem busRead_setSp (s : State) (v : Word) (x : Addr) : busRead (s.setSp v) x = busRead s x :=
  busRead_congr (by simp) (by simp) (by simp) (by simp) (by simp) (by simp) (by simp) x

@[simp] theorem busRead_setPc (s : State) (v : Addr) (x : Addr) : busRead (s.setPc v) x = busRead s x :=
  busRead_congr (by simp) (by simp) (by simp) (by simp) (by simp) (by simp) (by simp) x

@[simp] theorem busRead_setPair (s : State) (p : Pair) (v : Word) (x : Addr) : busRead (s.setPair p v) x = busRead s x :=
  busRead_congr (by simp) (by simp) (by simp) (by simp) (by simp) (by simp) (by simp) x

@[simp] theorem busRead_setStackPair (s : State) (p : StackPair) (v : Word) (x : Addr) : busRead (s.setStackPair p v) x = busRead s x :=
  busRead_congr (by simp) (by simp) (by simp) (by simp) (by simp) (by simp) (by simp) x

@[simp] theorem busRead_took (s : State) (n : Nat) (x : Addr) : busRead (s.took n) x = busRead s x :=
  busRead_congr (by simp) (by simp) (by simp) (by simp) (by simp) (by simp) (by simp) x

@[simp] theorem busRead_applyPending (s : State) (x : Addr) : busRead (applyPending s) x = busRead s x :=
  busRead_congr (by simp) (by simp) (by simp) (by simp) (by simp) (by simp) (by simp) x

@[simp] theorem busRead_fetched (s : State) (x : Addr) : busRead (fetched s) x = busRead s x :=
  busRead_congr (by simp) (by simp) (by simp) (by simp) (by simp) (by simp) (by simp) x

@[simp] theorem busRead_popped (s : State) (x : Addr) : busRead (popped s) x = busRead s x :=
  busRead_congr (by simp) (by simp) (by simp) (by simp) (by simp) (by simp) (by simp) x

/-! ## OAM DMA (20_memory.md R140) -/

@[simp] theorem oamDmaFrom_regs (base : Addr) (i k : Nat) (s : State) : (oamDmaFrom base i k s).regs = s.regs := by
  induction k generalizing i s with
  | zero => rfl
  | succ k ih => rw [oamDmaFrom, ih]

@[simp] theorem oamDmaFrom_ime (base : Addr) (i k : Nat) (s : State) : (oamDmaFrom base i k s).ime = s.ime := by
  induction k generalizing i s with
  | zero => rfl
  | succ k ih => rw [oamDmaFrom, ih]

@[simp] theorem oamDmaFrom_imePending (base : Addr) (i k : Nat) (s : State) : (oamDmaFrom base i k s).imePending = s.imePending := by
  induction k generalizing i s with
  | zero => rfl
  | succ k ih => rw [oamDmaFrom, ih]

@[simp] theorem oamDmaFrom_run (base : Addr) (i k : Nat) (s : State) : (oamDmaFrom base i k s).run = s.run := by
  induction k generalizing i s with
  | zero => rfl
  | succ k ih => rw [oamDmaFrom, ih]

@[simp] theorem oamDmaFrom_haltRepeat (base : Addr) (i k : Nat) (s : State) : (oamDmaFrom base i k s).haltRepeat = s.haltRepeat := by
  induction k generalizing i s with
  | zero => rfl
  | succ k ih => rw [oamDmaFrom, ih]

@[simp] theorem oamDmaFrom_faultRec (base : Addr) (i k : Nat) (s : State) : (oamDmaFrom base i k s).faultRec = s.faultRec := by
  induction k generalizing i s with
  | zero => rfl
  | succ k ih => rw [oamDmaFrom, ih]

@[simp] theorem oamDmaFrom_ie (base : Addr) (i k : Nat) (s : State) : (oamDmaFrom base i k s).ie = s.ie := by
  induction k generalizing i s with
  | zero => rfl
  | succ k ih => rw [oamDmaFrom, ih]

@[simp] theorem oamDmaFrom_ifl (base : Addr) (i k : Nat) (s : State) : (oamDmaFrom base i k s).ifl = s.ifl := by
  induction k generalizing i s with
  | zero => rfl
  | succ k ih => rw [oamDmaFrom, ih]

@[simp] theorem oamDmaFrom_cart (base : Addr) (i k : Nat) (s : State) : (oamDmaFrom base i k s).cart = s.cart := by
  induction k generalizing i s with
  | zero => rfl
  | succ k ih => rw [oamDmaFrom, ih]

@[simp] theorem oamDmaFrom_timer (base : Addr) (i k : Nat) (s : State) : (oamDmaFrom base i k s).timer = s.timer := by
  induction k generalizing i s with
  | zero => rfl
  | succ k ih => rw [oamDmaFrom, ih]

@[simp] theorem oamDmaFrom_ppu (base : Addr) (i k : Nat) (s : State) : (oamDmaFrom base i k s).ppu = s.ppu := by
  induction k generalizing i s with
  | zero => rfl
  | succ k ih => rw [oamDmaFrom, ih]

@[simp] theorem oamDmaFrom_joypad (base : Addr) (i k : Nat) (s : State) : (oamDmaFrom base i k s).joypad = s.joypad := by
  induction k generalizing i s with
  | zero => rfl
  | succ k ih => rw [oamDmaFrom, ih]

@[simp] theorem oamDmaFrom_cycles (base : Addr) (i k : Nat) (s : State) : (oamDmaFrom base i k s).cycles = s.cycles := by
  induction k generalizing i s with
  | zero => rfl
  | succ k ih => rw [oamDmaFrom, ih]

@[simp] theorem oamDmaFrom_opAddr (base : Addr) (i k : Nat) (s : State) : (oamDmaFrom base i k s).opAddr = s.opAddr := by
  induction k generalizing i s with
  | zero => rfl
  | succ k ih => rw [oamDmaFrom, ih]

@[simp] theorem oamDmaFrom_hostMoves (base : Addr) (i k : Nat) (s : State) : (oamDmaFrom base i k s).hostMoves = s.hostMoves := by
  induction k generalizing i s with
  | zero => rfl
  | succ k ih => rw [oamDmaFrom, ih]

theorem oamDmaFrom_cells (base : Addr) (i k : Nat) (s : State) {r : Region} (hr : r ≠ .oam) :
    (oamDmaFrom base i k s).mem.cells r = s.mem.cells r := by
  induction k generalizing i s with
  | zero => rfl
  | succ k ih => rw [oamDmaFrom, ih, Memory.cells_write, if_neg hr]

theorem oamDmaFrom_wf (base : Addr) (i k : Nat) {s : State} (h : s.mem.wf) : (oamDmaFrom base i k s).mem.wf := by
  induction k generalizing i s with
  | zero => exact h
  | succ k ih => exact ih (i + 1) (Memory.write_wf h ..)

theorem oamDmaFrom_within (base : Addr) (i k : Nat) {s : State} {a b : Nat} (h : s.mem.within a b) (hi : i + k ≤ 160) :
    (oamDmaFrom base i k s).mem.within a b := by
  induction k generalizing i s with
  | zero => exact h
  | succ k ih => exact ih (i + 1) (Memory.write_within h (show i < 160 by omega) _) (by omega)

/-! ## Writing the bus -/

@[simp] theorem ioWrite_regs (s : State) (r : IoReg) (v : Byte) : (ioWrite s r v).regs = s.regs := by
  cases r <;> simp [ioWrite, oamDma]

@[simp] theorem busWrite_regs (s : State) (a : Addr) (v : Byte) : (busWrite s a v).regs = s.regs := by
  unfold busWrite; split <;> simp

@[simp] theorem busWrite16_regs (s : State) (a : Addr) (v : Word) : (busWrite16 s a v).regs = s.regs := by
  simp [busWrite16]

@[simp] theorem ioWrite_ime (s : State) (r : IoReg) (v : Byte) : (ioWrite s r v).ime = s.ime := by
  cases r <;> simp [ioWrite, oamDma]

@[simp] theorem busWrite_ime (s : State) (a : Addr) (v : Byte) : (busWrite s a v).ime = s.ime := by
  unfold busWrite; split <;> simp

@[simp] theorem busWrite16_ime (s : State) (a : Addr) (v : Word) : (busWrite16 s a v).ime = s.ime := by
  simp [busWrite16]

@[simp] theorem push16_ime (s : State) (v : Word) : (push16 s v).ime = s.ime := by
  simp [push16]

@[simp] theorem ioWrite_imePending (s : State) (r : IoReg) (v : Byte) : (ioWrite s r v).imePending = s.imePending := by
  cases r <;> simp [ioWrite, oamDma]

@[simp] theorem busWrite_imePending (s : State) (a : Addr) (v : Byte) : (busWrite s a v).imePending = s.imePending := by
  unfold busWrite; split <;> simp

@[simp] theorem busWrite16_imePending (s : State) (a : Addr) (v : Word) : (busWrite16 s a v).imePending = s.imePending := by
  simp [busWrite16]

@[simp] theorem push16_imePending (s : State) (v : Word) : (push16 s v).imePending = s.imePending := by
  simp [push16]

@[simp] theorem ioWrite_run (s : State) (r : IoReg) (v : Byte) : (ioWrite s r v).run = s.run := by
  cases r <;> simp [ioWrite, oamDma]

@[simp] theorem busWrite_run (s : State) (a : Addr) (v : Byte) : (busWrite s a v).run = s.run := by
  unfold busWrite; split <;> simp

@[simp] theorem busWrite16_run (s : State) (a : Addr) (v : Word) : (busWrite16 s a v).run = s.run := by
  simp [busWrite16]

@[simp] theorem push16_run (s : State) (v : Word) : (push16 s v).run = s.run := by
  simp [push16]

@[simp] theorem ioWrite_haltRepeat (s : State) (r : IoReg) (v : Byte) : (ioWrite s r v).haltRepeat = s.haltRepeat := by
  cases r <;> simp [ioWrite, oamDma]

@[simp] theorem busWrite_haltRepeat (s : State) (a : Addr) (v : Byte) : (busWrite s a v).haltRepeat = s.haltRepeat := by
  unfold busWrite; split <;> simp

@[simp] theorem busWrite16_haltRepeat (s : State) (a : Addr) (v : Word) : (busWrite16 s a v).haltRepeat = s.haltRepeat := by
  simp [busWrite16]

@[simp] theorem push16_haltRepeat (s : State) (v : Word) : (push16 s v).haltRepeat = s.haltRepeat := by
  simp [push16]

@[simp] theorem ioWrite_faultRec (s : State) (r : IoReg) (v : Byte) : (ioWrite s r v).faultRec = s.faultRec := by
  cases r <;> simp [ioWrite, oamDma]

@[simp] theorem busWrite_faultRec (s : State) (a : Addr) (v : Byte) : (busWrite s a v).faultRec = s.faultRec := by
  unfold busWrite; split <;> simp

@[simp] theorem busWrite16_faultRec (s : State) (a : Addr) (v : Word) : (busWrite16 s a v).faultRec = s.faultRec := by
  simp [busWrite16]

@[simp] theorem push16_faultRec (s : State) (v : Word) : (push16 s v).faultRec = s.faultRec := by
  simp [push16]

@[simp] theorem ioWrite_cycles (s : State) (r : IoReg) (v : Byte) : (ioWrite s r v).cycles = s.cycles := by
  cases r <;> simp [ioWrite, oamDma]

@[simp] theorem busWrite_cycles (s : State) (a : Addr) (v : Byte) : (busWrite s a v).cycles = s.cycles := by
  unfold busWrite; split <;> simp

@[simp] theorem busWrite16_cycles (s : State) (a : Addr) (v : Word) : (busWrite16 s a v).cycles = s.cycles := by
  simp [busWrite16]

@[simp] theorem push16_cycles (s : State) (v : Word) : (push16 s v).cycles = s.cycles := by
  simp [push16]

@[simp] theorem ioWrite_opAddr (s : State) (r : IoReg) (v : Byte) : (ioWrite s r v).opAddr = s.opAddr := by
  cases r <;> simp [ioWrite, oamDma]

@[simp] theorem busWrite_opAddr (s : State) (a : Addr) (v : Byte) : (busWrite s a v).opAddr = s.opAddr := by
  unfold busWrite; split <;> simp

@[simp] theorem busWrite16_opAddr (s : State) (a : Addr) (v : Word) : (busWrite16 s a v).opAddr = s.opAddr := by
  simp [busWrite16]

@[simp] theorem push16_opAddr (s : State) (v : Word) : (push16 s v).opAddr = s.opAddr := by
  simp [push16]

@[simp] theorem ioWrite_hostMoves (s : State) (r : IoReg) (v : Byte) : (ioWrite s r v).hostMoves = s.hostMoves := by
  cases r <;> simp [ioWrite, oamDma]

@[simp] theorem busWrite_hostMoves (s : State) (a : Addr) (v : Byte) : (busWrite s a v).hostMoves = s.hostMoves := by
  unfold busWrite; split <;> simp

@[simp] theorem busWrite16_hostMoves (s : State) (a : Addr) (v : Word) : (busWrite16 s a v).hostMoves = s.hostMoves := by
  simp [busWrite16]

@[simp] theorem push16_hostMoves (s : State) (v : Word) : (push16 s v).hostMoves = s.hostMoves := by
  simp [push16]

/-- A push changes no register but SP (40_loads.md R340). -/
@[simp] theorem push16_regs (s : State) (v : Word) : (push16 s v).regs = { s.regs with sp := s.regs.sp - 2 } := by
  simp [push16, State.setSp]

/-- An I/O write changes the cartridge not at all. -/
@[simp] theorem ioWrite_cart (s : State) (r : IoReg) (v : Byte) : (ioWrite s r v).cart = s.cart := by
  cases r <;> simp [ioWrite, oamDma]

/-- The bank controller changes neither the variant nor a size, and keeps BANK_LO off 0 (20_memory.md R152). -/
theorem Cart.control_fixed (c : Cart) (n : Nat) (v : Byte) :
    (c.control n v).kind = c.kind ∧ (c.control n v).romSize = c.romSize ∧ (c.control n v).nrom = c.nrom ∧
      (c.control n v).ramSize = c.ramSize := by
  unfold Cart.control
  split
  · simp
  · split_ifs <;> simp

theorem Cart.control_bankLo {c : Cart} (h : c.bankLo ≠ 0) (n : Nat) (v : Byte) : (c.control n v).bankLo ≠ 0 := by
  unfold Cart.control
  split
  · exact h
  · by_cases h4 : v.extractLsb' 0 5 = 0
    · split_ifs <;> simp_all
    · split_ifs <;> simp_all

theorem busWrite_cart_fixed (s : State) (a : Addr) (v : Byte) :
    (busWrite s a v).cart.kind = s.cart.kind ∧ (busWrite s a v).cart.romSize = s.cart.romSize ∧
      (busWrite s a v).cart.nrom = s.cart.nrom ∧ (busWrite s a v).cart.ramSize = s.cart.ramSize := by
  unfold busWrite
  split <;> simp [Cart.control_fixed]

theorem busWrite_bankLo {s : State} (h : s.cart.bankLo ≠ 0) (a : Addr) (v : Byte) : (busWrite s a v).cart.bankLo ≠ 0 := by
  unfold busWrite
  split
  · exact h
  · rename_i n _
    exact Cart.control_bankLo (c := s.cart) h n v
  · rw [ioWrite_cart]
    exact h
  · exact h
  · exact h

/-- The array an address names is not CART_ROM, and the index lies in it. -/
theorem resolve_cell {c : Cart} {a : Addr} {r : Region} {i : Nat} (h : resolve c a = .cell r i) :
    r ≠ .cartRom ∧ ∀ b, i < r.size c.ramSize b := by
  have ha := a.isLt
  simp only [resolve] at h
  split_ifs at h
  all_goals try (simp only [Device.cell.injEq] at h; obtain ⟨rfl, rfl⟩ := h; exact ⟨by decide, fun b => by simp only [Region.size]; omega⟩)
  · split at h
    · rename_i off heq
      simp only [Device.cell.injEq] at h
      obtain ⟨rfl, rfl⟩ := h
      unfold Cart.ramOffset at heq
      split at heq
      · simp at heq
      · split_ifs at heq with hr
        simp only [Option.some.injEq] at heq
        subst heq
        simp only [Bool.and_eq_true, bne_iff_ne, ne_eq] at hr
        exact ⟨by decide, fun b => Nat.mod_lt _ (by omega)⟩
    · simp at h
  · split at h <;> simp at h

/-- Only a write to DMA changes a memory. -/
theorem ioWrite_mem (s : State) {r : IoReg} (hr : r ≠ .dma) (v : Byte) : (ioWrite s r v).mem = s.mem := by
  cases r <;> first | exact absurd rfl hr | rfl

theorem ioWrite_wf {s : State} (h : s.mem.wf) (r : IoReg) (v : Byte) : (ioWrite s r v).mem.wf := by
  by_cases hr : r = .dma
  · subst hr
    exact oamDmaFrom_wf _ _ _ h
  · rw [ioWrite_mem s hr]
    exact h

theorem ioWrite_within {s : State} {a b : Nat} (h : s.mem.within a b) (r : IoReg) (v : Byte) :
    (ioWrite s r v).mem.within a b := by
  by_cases hr : r = .dma
  · subst hr
    exact oamDmaFrom_within _ _ _ h (by omega)
  · rw [ioWrite_mem s hr]
    exact h

/-- Every bus write keeps the canonical form. -/
theorem busWrite_wf {s : State} (h : s.mem.wf) (a : Addr) (v : Byte) : (busWrite s a v).mem.wf := by
  unfold busWrite
  split
  · exact Memory.write_wf h ..
  · exact h
  · exact ioWrite_wf h ..
  · exact h
  · exact h

/-- Every bus write keeps the bounds. -/
theorem busWrite_within {s : State} (h : s.mem.within s.cart.ramSize s.cart.romSize) (a : Addr) (v : Byte) :
    (busWrite s a v).mem.within s.cart.ramSize s.cart.romSize := by
  unfold busWrite
  split
  · rename_i r i hr
    exact Memory.write_within h ((resolve_cell hr).2 _) v
  · exact h
  · exact ioWrite_within h ..
  · exact h
  · exact h

/-- No bus write reaches CART_ROM (20_memory.md R162). -/
theorem busWrite_rom (s : State) (a : Addr) (v : Byte) : (busWrite s a v).mem.cartRom = s.mem.cartRom := by
  unfold busWrite
  split
  · rename_i r i hr
    have hne := (resolve_cell hr).1
    have := Memory.cells_write s.mem r .cartRom i v
    rw [if_neg (Ne.symm hne)] at this
    exact this
  · rfl
  · rename_i r _
    by_cases hr : r = .dma
    · subst hr
      exact oamDmaFrom_cells _ _ _ _ (r := .cartRom) (by decide)
    · rw [ioWrite_mem s hr]
  · rfl
  · rfl

/-! ## What the bus depends on and acts on -/

/-- The part of the state that bus accesses read and write. -/
def State.bus (s : State) : Memory × Cart × Timer × Ppu × Joypad × BitVec 5 × Byte :=
  (s.mem, s.cart, s.timer, s.ppu, s.joypad, s.ifl, s.ie)

theorem State.bus_eq {s t : State} (h : t.bus = s.bus) :
    t.mem = s.mem ∧ t.cart = s.cart ∧ t.timer = s.timer ∧ t.ppu = s.ppu ∧ t.joypad = s.joypad ∧ t.ifl = s.ifl ∧ t.ie = s.ie := by
  simpa [State.bus] using h

theorem State.bus_of_fields {s t : State} (hm : t.mem = s.mem) (hc : t.cart = s.cart) (ht : t.timer = s.timer) (hp : t.ppu = s.ppu)
    (hj : t.joypad = s.joypad) (hi : t.ifl = s.ifl) (he : t.ie = s.ie) : t.bus = s.bus := by
  simp [State.bus, hm, hc, ht, hp, hj, hi, he]

theorem busRead_of_bus {s t : State} (h : t.bus = s.bus) (a : Addr) : busRead t a = busRead s a := by
  obtain ⟨h1, h2, h3, h4, h5, h6, h7⟩ := State.bus_eq h
  exact busRead_congr h1 h2 h3 h4 h5 h6 h7 a

theorem oamDmaFrom_of_bus (base : Addr) (i k : Nat) {s t : State} (h : t.bus = s.bus) :
    (oamDmaFrom base i k t).bus = (oamDmaFrom base i k s).bus := by
  induction k generalizing i s t with
  | zero => exact h
  | succ k ih =>
    apply ih
    obtain ⟨h1, h2, h3, h4, h5, h6, h7⟩ := State.bus_eq h
    exact State.bus_of_fields (by rw [h1, busRead_of_bus h]) h2 h3 h4 h5 h6 h7

/-- A write to an I/O register acts on the bus part alone. -/
theorem ioWrite_of_bus {s t : State} (h : t.bus = s.bus) (r : IoReg) (v : Byte) : (ioWrite t r v).bus = (ioWrite s r v).bus := by
  obtain ⟨h1, h2, h3, h4, h5, h6, h7⟩ := State.bus_eq h
  by_cases hr : r = .dma
  · subst hr
    exact oamDmaFrom_of_bus _ _ _ (State.bus_of_fields h1 h2 h3 (by simp only [h4]) h5 h6 h7)
  · cases r
    case dma => exact absurd rfl hr
    all_goals simp [ioWrite, State.bus, resetDiv, h1, h2, h3, h4, h5, h6, h7]

/-- What a bus write does depends on the bus part alone. -/
theorem busWrite_of_bus {s t : State} (h : t.bus = s.bus) (a : Addr) (v : Byte) : (busWrite t a v).bus = (busWrite s a v).bus := by
  obtain ⟨h1, h2, h3, h4, h5, h6, h7⟩ := State.bus_eq h
  unfold busWrite
  rw [show resolve t.cart a = resolve s.cart a by rw [h2]]
  split
  · exact State.bus_of_fields (by rw [h1]) h2 h3 h4 h5 h6 h7
  · exact State.bus_of_fields h1 (by rw [h2]) h3 h4 h5 h6 h7
  · exact ioWrite_of_bus h ..
  · exact State.bus_of_fields h1 h2 h3 h4 h5 h6 rfl
  · exact h

/-- What a push does depends on the bus part and SP alone. -/
theorem push16_of_bus {s t : State} (h : t.bus = s.bus) (hs : t.regs.sp = s.regs.sp) (v : Word) : (push16 t v).bus = (push16 s v).bus := by
  have h' : (t.setSp (s.regs.sp - 2)).bus = (s.setSp (s.regs.sp - 2)).bus := h
  unfold push16 busWrite16
  rw [hs]
  exact busWrite_of_bus (busWrite_of_bus h' _ _) _ _

/-! ## The poll (60_exceptions.md R710, R720) -/

/-- What the poll can do: nothing but a wake, or the dispatch of the first pending line. -/
theorem poll_cases (s : State) :
    poll s = (if s.pending = 0 then s else wake s) ∨
      ∃ line, s.ime = true ∧ firstLine s.pending = some line ∧
        poll s = (dispatchInt line (if s.pending = 0 then s else wake s)).took (s.cycles + Config.intDispatchCycles) := by
  cases hi : s.ime <;> cases hl : firstLine s.pending <;> simp [poll, hi, hl]

/-! ## The devices -/

@[simp] theorem timaIncrement_regs (s : State) : (timaIncrement s).regs = s.regs := by
  unfold timaIncrement; split <;> rfl

@[simp] theorem timaIncrements_regs (k : Nat) (s : State) : (timaIncrements k s).regs = s.regs := by
  induction k generalizing s with
  | zero => rfl
  | succ k ih => rw [timaIncrements, ih, timaIncrement_regs]

@[simp] theorem timerAdvance_regs (n : Nat) (s : State) : (timerAdvance n s).regs = s.regs := by
  unfold timerAdvance timaAdvance; split <;> simp [divAdvance]

@[simp] theorem timaIncrement_ime (s : State) : (timaIncrement s).ime = s.ime := by
  unfold timaIncrement; split <;> rfl

@[simp] theorem timaIncrements_ime (k : Nat) (s : State) : (timaIncrements k s).ime = s.ime := by
  induction k generalizing s with
  | zero => rfl
  | succ k ih => rw [timaIncrements, ih, timaIncrement_ime]

@[simp] theorem timerAdvance_ime (n : Nat) (s : State) : (timerAdvance n s).ime = s.ime := by
  unfold timerAdvance timaAdvance; split <;> simp [divAdvance]

@[simp] theorem timaIncrement_imePending (s : State) : (timaIncrement s).imePending = s.imePending := by
  unfold timaIncrement; split <;> rfl

@[simp] theorem timaIncrements_imePending (k : Nat) (s : State) : (timaIncrements k s).imePending = s.imePending := by
  induction k generalizing s with
  | zero => rfl
  | succ k ih => rw [timaIncrements, ih, timaIncrement_imePending]

@[simp] theorem timerAdvance_imePending (n : Nat) (s : State) : (timerAdvance n s).imePending = s.imePending := by
  unfold timerAdvance timaAdvance; split <;> simp [divAdvance]

@[simp] theorem timaIncrement_run (s : State) : (timaIncrement s).run = s.run := by
  unfold timaIncrement; split <;> rfl

@[simp] theorem timaIncrements_run (k : Nat) (s : State) : (timaIncrements k s).run = s.run := by
  induction k generalizing s with
  | zero => rfl
  | succ k ih => rw [timaIncrements, ih, timaIncrement_run]

@[simp] theorem timerAdvance_run (n : Nat) (s : State) : (timerAdvance n s).run = s.run := by
  unfold timerAdvance timaAdvance; split <;> simp [divAdvance]

@[simp] theorem timaIncrement_haltRepeat (s : State) : (timaIncrement s).haltRepeat = s.haltRepeat := by
  unfold timaIncrement; split <;> rfl

@[simp] theorem timaIncrements_haltRepeat (k : Nat) (s : State) : (timaIncrements k s).haltRepeat = s.haltRepeat := by
  induction k generalizing s with
  | zero => rfl
  | succ k ih => rw [timaIncrements, ih, timaIncrement_haltRepeat]

@[simp] theorem timerAdvance_haltRepeat (n : Nat) (s : State) : (timerAdvance n s).haltRepeat = s.haltRepeat := by
  unfold timerAdvance timaAdvance; split <;> simp [divAdvance]

@[simp] theorem timaIncrement_faultRec (s : State) : (timaIncrement s).faultRec = s.faultRec := by
  unfold timaIncrement; split <;> rfl

@[simp] theorem timaIncrements_faultRec (k : Nat) (s : State) : (timaIncrements k s).faultRec = s.faultRec := by
  induction k generalizing s with
  | zero => rfl
  | succ k ih => rw [timaIncrements, ih, timaIncrement_faultRec]

@[simp] theorem timerAdvance_faultRec (n : Nat) (s : State) : (timerAdvance n s).faultRec = s.faultRec := by
  unfold timerAdvance timaAdvance; split <;> simp [divAdvance]

@[simp] theorem timaIncrement_ie (s : State) : (timaIncrement s).ie = s.ie := by
  unfold timaIncrement; split <;> rfl

@[simp] theorem timaIncrements_ie (k : Nat) (s : State) : (timaIncrements k s).ie = s.ie := by
  induction k generalizing s with
  | zero => rfl
  | succ k ih => rw [timaIncrements, ih, timaIncrement_ie]

@[simp] theorem timerAdvance_ie (n : Nat) (s : State) : (timerAdvance n s).ie = s.ie := by
  unfold timerAdvance timaAdvance; split <;> simp [divAdvance]

@[simp] theorem timaIncrement_cart (s : State) : (timaIncrement s).cart = s.cart := by
  unfold timaIncrement; split <;> rfl

@[simp] theorem timaIncrements_cart (k : Nat) (s : State) : (timaIncrements k s).cart = s.cart := by
  induction k generalizing s with
  | zero => rfl
  | succ k ih => rw [timaIncrements, ih, timaIncrement_cart]

@[simp] theorem timerAdvance_cart (n : Nat) (s : State) : (timerAdvance n s).cart = s.cart := by
  unfold timerAdvance timaAdvance; split <;> simp [divAdvance]

@[simp] theorem timaIncrement_ppu (s : State) : (timaIncrement s).ppu = s.ppu := by
  unfold timaIncrement; split <;> rfl

@[simp] theorem timaIncrements_ppu (k : Nat) (s : State) : (timaIncrements k s).ppu = s.ppu := by
  induction k generalizing s with
  | zero => rfl
  | succ k ih => rw [timaIncrements, ih, timaIncrement_ppu]

@[simp] theorem timerAdvance_ppu (n : Nat) (s : State) : (timerAdvance n s).ppu = s.ppu := by
  unfold timerAdvance timaAdvance; split <;> simp [divAdvance]

@[simp] theorem timaIncrement_joypad (s : State) : (timaIncrement s).joypad = s.joypad := by
  unfold timaIncrement; split <;> rfl

@[simp] theorem timaIncrements_joypad (k : Nat) (s : State) : (timaIncrements k s).joypad = s.joypad := by
  induction k generalizing s with
  | zero => rfl
  | succ k ih => rw [timaIncrements, ih, timaIncrement_joypad]

@[simp] theorem timerAdvance_joypad (n : Nat) (s : State) : (timerAdvance n s).joypad = s.joypad := by
  unfold timerAdvance timaAdvance; split <;> simp [divAdvance]

@[simp] theorem timaIncrement_cycles (s : State) : (timaIncrement s).cycles = s.cycles := by
  unfold timaIncrement; split <;> rfl

@[simp] theorem timaIncrements_cycles (k : Nat) (s : State) : (timaIncrements k s).cycles = s.cycles := by
  induction k generalizing s with
  | zero => rfl
  | succ k ih => rw [timaIncrements, ih, timaIncrement_cycles]

@[simp] theorem timerAdvance_cycles (n : Nat) (s : State) : (timerAdvance n s).cycles = s.cycles := by
  unfold timerAdvance timaAdvance; split <;> simp [divAdvance]

@[simp] theorem timaIncrement_opAddr (s : State) : (timaIncrement s).opAddr = s.opAddr := by
  unfold timaIncrement; split <;> rfl

@[simp] theorem timaIncrements_opAddr (k : Nat) (s : State) : (timaIncrements k s).opAddr = s.opAddr := by
  induction k generalizing s with
  | zero => rfl
  | succ k ih => rw [timaIncrements, ih, timaIncrement_opAddr]

@[simp] theorem timerAdvance_opAddr (n : Nat) (s : State) : (timerAdvance n s).opAddr = s.opAddr := by
  unfold timerAdvance timaAdvance; split <;> simp [divAdvance]

@[simp] theorem timaIncrement_hostMoves (s : State) : (timaIncrement s).hostMoves = s.hostMoves := by
  unfold timaIncrement; split <;> rfl

@[simp] theorem timaIncrements_hostMoves (k : Nat) (s : State) : (timaIncrements k s).hostMoves = s.hostMoves := by
  induction k generalizing s with
  | zero => rfl
  | succ k ih => rw [timaIncrements, ih, timaIncrement_hostMoves]

@[simp] theorem timerAdvance_hostMoves (n : Nat) (s : State) : (timerAdvance n s).hostMoves = s.hostMoves := by
  unfold timerAdvance timaAdvance; split <;> simp [divAdvance]

@[simp] theorem timaIncrement_mem (s : State) : (timaIncrement s).mem = s.mem := by
  unfold timaIncrement; split <;> rfl

@[simp] theorem timaIncrements_mem (k : Nat) (s : State) : (timaIncrements k s).mem = s.mem := by
  induction k generalizing s with
  | zero => rfl
  | succ k ih => rw [timaIncrements, ih, timaIncrement_mem]

@[simp] theorem timerAdvance_mem (n : Nat) (s : State) : (timerAdvance n s).mem = s.mem := by
  unfold timerAdvance timaAdvance; split <;> simp [divAdvance]

@[simp] theorem lineChange_regs (s : State) : (lineChange s).regs = s.regs := by
  unfold lineChange lycCheck; split_ifs <;> rfl

@[simp] theorem ppuCount_regs (s : State) : (ppuCount s).regs = s.regs := by
  unfold ppuCount; split_ifs <;> simp

@[simp] theorem modeInt_regs (b : Bool) (s : State) : (modeInt b s).regs = s.regs := by
  unfold modeInt; split_ifs <;> rfl

@[simp] theorem modeEntry_regs (m : PpuMode) (s : State) : (modeEntry m s).regs = s.regs := by
  cases m <;> simp only [modeEntry, modeInt_regs] <;> (try split_ifs) <;> rfl

@[simp] theorem ppuMode_regs (s : State) : (ppuMode s).regs = s.regs := by
  unfold ppuMode; dsimp only; split_ifs <;> simp

@[simp] theorem ppuAdvance_regs (n : Nat) (s : State) : (ppuAdvance n s).regs = s.regs := by
  induction n generalizing s with
  | zero => rfl
  | succ n ih => rw [ppuAdvance, ih, ppuCycle, ppuMode_regs, ppuCount_regs]

@[simp] theorem lineChange_ime (s : State) : (lineChange s).ime = s.ime := by
  unfold lineChange lycCheck; split_ifs <;> rfl

@[simp] theorem ppuCount_ime (s : State) : (ppuCount s).ime = s.ime := by
  unfold ppuCount; split_ifs <;> simp

@[simp] theorem modeInt_ime (b : Bool) (s : State) : (modeInt b s).ime = s.ime := by
  unfold modeInt; split_ifs <;> rfl

@[simp] theorem modeEntry_ime (m : PpuMode) (s : State) : (modeEntry m s).ime = s.ime := by
  cases m <;> simp only [modeEntry, modeInt_ime] <;> (try split_ifs) <;> rfl

@[simp] theorem ppuMode_ime (s : State) : (ppuMode s).ime = s.ime := by
  unfold ppuMode; dsimp only; split_ifs <;> simp

@[simp] theorem ppuAdvance_ime (n : Nat) (s : State) : (ppuAdvance n s).ime = s.ime := by
  induction n generalizing s with
  | zero => rfl
  | succ n ih => rw [ppuAdvance, ih, ppuCycle, ppuMode_ime, ppuCount_ime]

@[simp] theorem lineChange_imePending (s : State) : (lineChange s).imePending = s.imePending := by
  unfold lineChange lycCheck; split_ifs <;> rfl

@[simp] theorem ppuCount_imePending (s : State) : (ppuCount s).imePending = s.imePending := by
  unfold ppuCount; split_ifs <;> simp

@[simp] theorem modeInt_imePending (b : Bool) (s : State) : (modeInt b s).imePending = s.imePending := by
  unfold modeInt; split_ifs <;> rfl

@[simp] theorem modeEntry_imePending (m : PpuMode) (s : State) : (modeEntry m s).imePending = s.imePending := by
  cases m <;> simp only [modeEntry, modeInt_imePending] <;> (try split_ifs) <;> rfl

@[simp] theorem ppuMode_imePending (s : State) : (ppuMode s).imePending = s.imePending := by
  unfold ppuMode; dsimp only; split_ifs <;> simp

@[simp] theorem ppuAdvance_imePending (n : Nat) (s : State) : (ppuAdvance n s).imePending = s.imePending := by
  induction n generalizing s with
  | zero => rfl
  | succ n ih => rw [ppuAdvance, ih, ppuCycle, ppuMode_imePending, ppuCount_imePending]

@[simp] theorem lineChange_run (s : State) : (lineChange s).run = s.run := by
  unfold lineChange lycCheck; split_ifs <;> rfl

@[simp] theorem ppuCount_run (s : State) : (ppuCount s).run = s.run := by
  unfold ppuCount; split_ifs <;> simp

@[simp] theorem modeInt_run (b : Bool) (s : State) : (modeInt b s).run = s.run := by
  unfold modeInt; split_ifs <;> rfl

@[simp] theorem modeEntry_run (m : PpuMode) (s : State) : (modeEntry m s).run = s.run := by
  cases m <;> simp only [modeEntry, modeInt_run] <;> (try split_ifs) <;> rfl

@[simp] theorem ppuMode_run (s : State) : (ppuMode s).run = s.run := by
  unfold ppuMode; dsimp only; split_ifs <;> simp

@[simp] theorem ppuAdvance_run (n : Nat) (s : State) : (ppuAdvance n s).run = s.run := by
  induction n generalizing s with
  | zero => rfl
  | succ n ih => rw [ppuAdvance, ih, ppuCycle, ppuMode_run, ppuCount_run]

@[simp] theorem lineChange_haltRepeat (s : State) : (lineChange s).haltRepeat = s.haltRepeat := by
  unfold lineChange lycCheck; split_ifs <;> rfl

@[simp] theorem ppuCount_haltRepeat (s : State) : (ppuCount s).haltRepeat = s.haltRepeat := by
  unfold ppuCount; split_ifs <;> simp

@[simp] theorem modeInt_haltRepeat (b : Bool) (s : State) : (modeInt b s).haltRepeat = s.haltRepeat := by
  unfold modeInt; split_ifs <;> rfl

@[simp] theorem modeEntry_haltRepeat (m : PpuMode) (s : State) : (modeEntry m s).haltRepeat = s.haltRepeat := by
  cases m <;> simp only [modeEntry, modeInt_haltRepeat] <;> (try split_ifs) <;> rfl

@[simp] theorem ppuMode_haltRepeat (s : State) : (ppuMode s).haltRepeat = s.haltRepeat := by
  unfold ppuMode; dsimp only; split_ifs <;> simp

@[simp] theorem ppuAdvance_haltRepeat (n : Nat) (s : State) : (ppuAdvance n s).haltRepeat = s.haltRepeat := by
  induction n generalizing s with
  | zero => rfl
  | succ n ih => rw [ppuAdvance, ih, ppuCycle, ppuMode_haltRepeat, ppuCount_haltRepeat]

@[simp] theorem lineChange_faultRec (s : State) : (lineChange s).faultRec = s.faultRec := by
  unfold lineChange lycCheck; split_ifs <;> rfl

@[simp] theorem ppuCount_faultRec (s : State) : (ppuCount s).faultRec = s.faultRec := by
  unfold ppuCount; split_ifs <;> simp

@[simp] theorem modeInt_faultRec (b : Bool) (s : State) : (modeInt b s).faultRec = s.faultRec := by
  unfold modeInt; split_ifs <;> rfl

@[simp] theorem modeEntry_faultRec (m : PpuMode) (s : State) : (modeEntry m s).faultRec = s.faultRec := by
  cases m <;> simp only [modeEntry, modeInt_faultRec] <;> (try split_ifs) <;> rfl

@[simp] theorem ppuMode_faultRec (s : State) : (ppuMode s).faultRec = s.faultRec := by
  unfold ppuMode; dsimp only; split_ifs <;> simp

@[simp] theorem ppuAdvance_faultRec (n : Nat) (s : State) : (ppuAdvance n s).faultRec = s.faultRec := by
  induction n generalizing s with
  | zero => rfl
  | succ n ih => rw [ppuAdvance, ih, ppuCycle, ppuMode_faultRec, ppuCount_faultRec]

@[simp] theorem lineChange_ie (s : State) : (lineChange s).ie = s.ie := by
  unfold lineChange lycCheck; split_ifs <;> rfl

@[simp] theorem ppuCount_ie (s : State) : (ppuCount s).ie = s.ie := by
  unfold ppuCount; split_ifs <;> simp

@[simp] theorem modeInt_ie (b : Bool) (s : State) : (modeInt b s).ie = s.ie := by
  unfold modeInt; split_ifs <;> rfl

@[simp] theorem modeEntry_ie (m : PpuMode) (s : State) : (modeEntry m s).ie = s.ie := by
  cases m <;> simp only [modeEntry, modeInt_ie] <;> (try split_ifs) <;> rfl

@[simp] theorem ppuMode_ie (s : State) : (ppuMode s).ie = s.ie := by
  unfold ppuMode; dsimp only; split_ifs <;> simp

@[simp] theorem ppuAdvance_ie (n : Nat) (s : State) : (ppuAdvance n s).ie = s.ie := by
  induction n generalizing s with
  | zero => rfl
  | succ n ih => rw [ppuAdvance, ih, ppuCycle, ppuMode_ie, ppuCount_ie]

@[simp] theorem lineChange_cart (s : State) : (lineChange s).cart = s.cart := by
  unfold lineChange lycCheck; split_ifs <;> rfl

@[simp] theorem ppuCount_cart (s : State) : (ppuCount s).cart = s.cart := by
  unfold ppuCount; split_ifs <;> simp

@[simp] theorem modeInt_cart (b : Bool) (s : State) : (modeInt b s).cart = s.cart := by
  unfold modeInt; split_ifs <;> rfl

@[simp] theorem modeEntry_cart (m : PpuMode) (s : State) : (modeEntry m s).cart = s.cart := by
  cases m <;> simp only [modeEntry, modeInt_cart] <;> (try split_ifs) <;> rfl

@[simp] theorem ppuMode_cart (s : State) : (ppuMode s).cart = s.cart := by
  unfold ppuMode; dsimp only; split_ifs <;> simp

@[simp] theorem ppuAdvance_cart (n : Nat) (s : State) : (ppuAdvance n s).cart = s.cart := by
  induction n generalizing s with
  | zero => rfl
  | succ n ih => rw [ppuAdvance, ih, ppuCycle, ppuMode_cart, ppuCount_cart]

@[simp] theorem lineChange_timer (s : State) : (lineChange s).timer = s.timer := by
  unfold lineChange lycCheck; split_ifs <;> rfl

@[simp] theorem ppuCount_timer (s : State) : (ppuCount s).timer = s.timer := by
  unfold ppuCount; split_ifs <;> simp

@[simp] theorem modeInt_timer (b : Bool) (s : State) : (modeInt b s).timer = s.timer := by
  unfold modeInt; split_ifs <;> rfl

@[simp] theorem modeEntry_timer (m : PpuMode) (s : State) : (modeEntry m s).timer = s.timer := by
  cases m <;> simp only [modeEntry, modeInt_timer] <;> (try split_ifs) <;> rfl

@[simp] theorem ppuMode_timer (s : State) : (ppuMode s).timer = s.timer := by
  unfold ppuMode; dsimp only; split_ifs <;> simp

@[simp] theorem ppuAdvance_timer (n : Nat) (s : State) : (ppuAdvance n s).timer = s.timer := by
  induction n generalizing s with
  | zero => rfl
  | succ n ih => rw [ppuAdvance, ih, ppuCycle, ppuMode_timer, ppuCount_timer]

@[simp] theorem lineChange_joypad (s : State) : (lineChange s).joypad = s.joypad := by
  unfold lineChange lycCheck; split_ifs <;> rfl

@[simp] theorem ppuCount_joypad (s : State) : (ppuCount s).joypad = s.joypad := by
  unfold ppuCount; split_ifs <;> simp

@[simp] theorem modeInt_joypad (b : Bool) (s : State) : (modeInt b s).joypad = s.joypad := by
  unfold modeInt; split_ifs <;> rfl

@[simp] theorem modeEntry_joypad (m : PpuMode) (s : State) : (modeEntry m s).joypad = s.joypad := by
  cases m <;> simp only [modeEntry, modeInt_joypad] <;> (try split_ifs) <;> rfl

@[simp] theorem ppuMode_joypad (s : State) : (ppuMode s).joypad = s.joypad := by
  unfold ppuMode; dsimp only; split_ifs <;> simp

@[simp] theorem ppuAdvance_joypad (n : Nat) (s : State) : (ppuAdvance n s).joypad = s.joypad := by
  induction n generalizing s with
  | zero => rfl
  | succ n ih => rw [ppuAdvance, ih, ppuCycle, ppuMode_joypad, ppuCount_joypad]

@[simp] theorem lineChange_cycles (s : State) : (lineChange s).cycles = s.cycles := by
  unfold lineChange lycCheck; split_ifs <;> rfl

@[simp] theorem ppuCount_cycles (s : State) : (ppuCount s).cycles = s.cycles := by
  unfold ppuCount; split_ifs <;> simp

@[simp] theorem modeInt_cycles (b : Bool) (s : State) : (modeInt b s).cycles = s.cycles := by
  unfold modeInt; split_ifs <;> rfl

@[simp] theorem modeEntry_cycles (m : PpuMode) (s : State) : (modeEntry m s).cycles = s.cycles := by
  cases m <;> simp only [modeEntry, modeInt_cycles] <;> (try split_ifs) <;> rfl

@[simp] theorem ppuMode_cycles (s : State) : (ppuMode s).cycles = s.cycles := by
  unfold ppuMode; dsimp only; split_ifs <;> simp

@[simp] theorem ppuAdvance_cycles (n : Nat) (s : State) : (ppuAdvance n s).cycles = s.cycles := by
  induction n generalizing s with
  | zero => rfl
  | succ n ih => rw [ppuAdvance, ih, ppuCycle, ppuMode_cycles, ppuCount_cycles]

@[simp] theorem lineChange_opAddr (s : State) : (lineChange s).opAddr = s.opAddr := by
  unfold lineChange lycCheck; split_ifs <;> rfl

@[simp] theorem ppuCount_opAddr (s : State) : (ppuCount s).opAddr = s.opAddr := by
  unfold ppuCount; split_ifs <;> simp

@[simp] theorem modeInt_opAddr (b : Bool) (s : State) : (modeInt b s).opAddr = s.opAddr := by
  unfold modeInt; split_ifs <;> rfl

@[simp] theorem modeEntry_opAddr (m : PpuMode) (s : State) : (modeEntry m s).opAddr = s.opAddr := by
  cases m <;> simp only [modeEntry, modeInt_opAddr] <;> (try split_ifs) <;> rfl

@[simp] theorem ppuMode_opAddr (s : State) : (ppuMode s).opAddr = s.opAddr := by
  unfold ppuMode; dsimp only; split_ifs <;> simp

@[simp] theorem ppuAdvance_opAddr (n : Nat) (s : State) : (ppuAdvance n s).opAddr = s.opAddr := by
  induction n generalizing s with
  | zero => rfl
  | succ n ih => rw [ppuAdvance, ih, ppuCycle, ppuMode_opAddr, ppuCount_opAddr]

@[simp] theorem lineChange_hostMoves (s : State) : (lineChange s).hostMoves = s.hostMoves := by
  unfold lineChange lycCheck; split_ifs <;> rfl

@[simp] theorem ppuCount_hostMoves (s : State) : (ppuCount s).hostMoves = s.hostMoves := by
  unfold ppuCount; split_ifs <;> simp

@[simp] theorem modeInt_hostMoves (b : Bool) (s : State) : (modeInt b s).hostMoves = s.hostMoves := by
  unfold modeInt; split_ifs <;> rfl

@[simp] theorem modeEntry_hostMoves (m : PpuMode) (s : State) : (modeEntry m s).hostMoves = s.hostMoves := by
  cases m <;> simp only [modeEntry, modeInt_hostMoves] <;> (try split_ifs) <;> rfl

@[simp] theorem ppuMode_hostMoves (s : State) : (ppuMode s).hostMoves = s.hostMoves := by
  unfold ppuMode; dsimp only; split_ifs <;> simp

@[simp] theorem ppuAdvance_hostMoves (n : Nat) (s : State) : (ppuAdvance n s).hostMoves = s.hostMoves := by
  induction n generalizing s with
  | zero => rfl
  | succ n ih => rw [ppuAdvance, ih, ppuCycle, ppuMode_hostMoves, ppuCount_hostMoves]

@[simp] theorem lineChange_mem (s : State) : (lineChange s).mem = s.mem := by
  unfold lineChange lycCheck; split_ifs <;> rfl

@[simp] theorem ppuCount_mem (s : State) : (ppuCount s).mem = s.mem := by
  unfold ppuCount; split_ifs <;> simp

@[simp] theorem modeInt_mem (b : Bool) (s : State) : (modeInt b s).mem = s.mem := by
  unfold modeInt; split_ifs <;> rfl

@[simp] theorem modeEntry_mem (m : PpuMode) (s : State) : (modeEntry m s).mem = s.mem := by
  cases m <;> simp only [modeEntry, modeInt_mem] <;> (try split_ifs) <;> rfl

@[simp] theorem ppuMode_mem (s : State) : (ppuMode s).mem = s.mem := by
  unfold ppuMode; dsimp only; split_ifs <;> simp

@[simp] theorem ppuAdvance_mem (n : Nat) (s : State) : (ppuAdvance n s).mem = s.mem := by
  induction n generalizing s with
  | zero => rfl
  | succ n ih => rw [ppuAdvance, ih, ppuCycle, ppuMode_mem, ppuCount_mem]

/-! ## The host -/

/-- The host's moves change nothing but the buttons, IF, RUN and the queue itself (60_exceptions.md R800, R802). -/
@[simp] theorem leaveStop_regs (s : State) : (leaveStop s).regs = s.regs := by
  unfold leaveStop; split_ifs <;> rfl

@[simp] theorem hostMove_regs (s : State) (h : HostMove) : (hostMove s h).regs = s.regs := by
  cases h <;> simp only [hostMove, press, release] <;> (try split_ifs) <;> simp [State.setBtn]

theorem hostMoves_foldl_regs (l : List HostMove) (s : State) : (l.foldl hostMove s).regs = s.regs := by
  induction l generalizing s with
  | nil => rfl
  | cons h t ih => rw [List.foldl_cons, ih, hostMove_regs]

@[simp] theorem hostTurn_regs (s : State) : (hostTurn s).regs = s.regs := by
  unfold hostTurn; split
  · rfl
  · rw [hostMoves_foldl_regs]

@[simp] theorem leaveStop_ime (s : State) : (leaveStop s).ime = s.ime := by
  unfold leaveStop; split_ifs <;> rfl

@[simp] theorem hostMove_ime (s : State) (h : HostMove) : (hostMove s h).ime = s.ime := by
  cases h <;> simp only [hostMove, press, release] <;> (try split_ifs) <;> simp [State.setBtn]

theorem hostMoves_foldl_ime (l : List HostMove) (s : State) : (l.foldl hostMove s).ime = s.ime := by
  induction l generalizing s with
  | nil => rfl
  | cons h t ih => rw [List.foldl_cons, ih, hostMove_ime]

@[simp] theorem hostTurn_ime (s : State) : (hostTurn s).ime = s.ime := by
  unfold hostTurn; split
  · rfl
  · rw [hostMoves_foldl_ime]

@[simp] theorem leaveStop_imePending (s : State) : (leaveStop s).imePending = s.imePending := by
  unfold leaveStop; split_ifs <;> rfl

@[simp] theorem hostMove_imePending (s : State) (h : HostMove) : (hostMove s h).imePending = s.imePending := by
  cases h <;> simp only [hostMove, press, release] <;> (try split_ifs) <;> simp [State.setBtn]

theorem hostMoves_foldl_imePending (l : List HostMove) (s : State) : (l.foldl hostMove s).imePending = s.imePending := by
  induction l generalizing s with
  | nil => rfl
  | cons h t ih => rw [List.foldl_cons, ih, hostMove_imePending]

@[simp] theorem hostTurn_imePending (s : State) : (hostTurn s).imePending = s.imePending := by
  unfold hostTurn; split
  · rfl
  · rw [hostMoves_foldl_imePending]

@[simp] theorem leaveStop_haltRepeat (s : State) : (leaveStop s).haltRepeat = s.haltRepeat := by
  unfold leaveStop; split_ifs <;> rfl

@[simp] theorem hostMove_haltRepeat (s : State) (h : HostMove) : (hostMove s h).haltRepeat = s.haltRepeat := by
  cases h <;> simp only [hostMove, press, release] <;> (try split_ifs) <;> simp [State.setBtn]

theorem hostMoves_foldl_haltRepeat (l : List HostMove) (s : State) : (l.foldl hostMove s).haltRepeat = s.haltRepeat := by
  induction l generalizing s with
  | nil => rfl
  | cons h t ih => rw [List.foldl_cons, ih, hostMove_haltRepeat]

@[simp] theorem hostTurn_haltRepeat (s : State) : (hostTurn s).haltRepeat = s.haltRepeat := by
  unfold hostTurn; split
  · rfl
  · rw [hostMoves_foldl_haltRepeat]

@[simp] theorem leaveStop_faultRec (s : State) : (leaveStop s).faultRec = s.faultRec := by
  unfold leaveStop; split_ifs <;> rfl

@[simp] theorem hostMove_faultRec (s : State) (h : HostMove) : (hostMove s h).faultRec = s.faultRec := by
  cases h <;> simp only [hostMove, press, release] <;> (try split_ifs) <;> simp [State.setBtn]

theorem hostMoves_foldl_faultRec (l : List HostMove) (s : State) : (l.foldl hostMove s).faultRec = s.faultRec := by
  induction l generalizing s with
  | nil => rfl
  | cons h t ih => rw [List.foldl_cons, ih, hostMove_faultRec]

@[simp] theorem hostTurn_faultRec (s : State) : (hostTurn s).faultRec = s.faultRec := by
  unfold hostTurn; split
  · rfl
  · rw [hostMoves_foldl_faultRec]

@[simp] theorem leaveStop_ie (s : State) : (leaveStop s).ie = s.ie := by
  unfold leaveStop; split_ifs <;> rfl

@[simp] theorem hostMove_ie (s : State) (h : HostMove) : (hostMove s h).ie = s.ie := by
  cases h <;> simp only [hostMove, press, release] <;> (try split_ifs) <;> simp [State.setBtn]

theorem hostMoves_foldl_ie (l : List HostMove) (s : State) : (l.foldl hostMove s).ie = s.ie := by
  induction l generalizing s with
  | nil => rfl
  | cons h t ih => rw [List.foldl_cons, ih, hostMove_ie]

@[simp] theorem hostTurn_ie (s : State) : (hostTurn s).ie = s.ie := by
  unfold hostTurn; split
  · rfl
  · rw [hostMoves_foldl_ie]

@[simp] theorem leaveStop_cart (s : State) : (leaveStop s).cart = s.cart := by
  unfold leaveStop; split_ifs <;> rfl

@[simp] theorem hostMove_cart (s : State) (h : HostMove) : (hostMove s h).cart = s.cart := by
  cases h <;> simp only [hostMove, press, release] <;> (try split_ifs) <;> simp [State.setBtn]

theorem hostMoves_foldl_cart (l : List HostMove) (s : State) : (l.foldl hostMove s).cart = s.cart := by
  induction l generalizing s with
  | nil => rfl
  | cons h t ih => rw [List.foldl_cons, ih, hostMove_cart]

@[simp] theorem hostTurn_cart (s : State) : (hostTurn s).cart = s.cart := by
  unfold hostTurn; split
  · rfl
  · rw [hostMoves_foldl_cart]

@[simp] theorem leaveStop_timer (s : State) : (leaveStop s).timer = s.timer := by
  unfold leaveStop; split_ifs <;> rfl

@[simp] theorem hostMove_timer (s : State) (h : HostMove) : (hostMove s h).timer = s.timer := by
  cases h <;> simp only [hostMove, press, release] <;> (try split_ifs) <;> simp [State.setBtn]

theorem hostMoves_foldl_timer (l : List HostMove) (s : State) : (l.foldl hostMove s).timer = s.timer := by
  induction l generalizing s with
  | nil => rfl
  | cons h t ih => rw [List.foldl_cons, ih, hostMove_timer]

@[simp] theorem hostTurn_timer (s : State) : (hostTurn s).timer = s.timer := by
  unfold hostTurn; split
  · rfl
  · rw [hostMoves_foldl_timer]

@[simp] theorem leaveStop_ppu (s : State) : (leaveStop s).ppu = s.ppu := by
  unfold leaveStop; split_ifs <;> rfl

@[simp] theorem hostMove_ppu (s : State) (h : HostMove) : (hostMove s h).ppu = s.ppu := by
  cases h <;> simp only [hostMove, press, release] <;> (try split_ifs) <;> simp [State.setBtn]

theorem hostMoves_foldl_ppu (l : List HostMove) (s : State) : (l.foldl hostMove s).ppu = s.ppu := by
  induction l generalizing s with
  | nil => rfl
  | cons h t ih => rw [List.foldl_cons, ih, hostMove_ppu]

@[simp] theorem hostTurn_ppu (s : State) : (hostTurn s).ppu = s.ppu := by
  unfold hostTurn; split
  · rfl
  · rw [hostMoves_foldl_ppu]

@[simp] theorem leaveStop_cycles (s : State) : (leaveStop s).cycles = s.cycles := by
  unfold leaveStop; split_ifs <;> rfl

@[simp] theorem hostMove_cycles (s : State) (h : HostMove) : (hostMove s h).cycles = s.cycles := by
  cases h <;> simp only [hostMove, press, release] <;> (try split_ifs) <;> simp [State.setBtn]

theorem hostMoves_foldl_cycles (l : List HostMove) (s : State) : (l.foldl hostMove s).cycles = s.cycles := by
  induction l generalizing s with
  | nil => rfl
  | cons h t ih => rw [List.foldl_cons, ih, hostMove_cycles]

@[simp] theorem hostTurn_cycles (s : State) : (hostTurn s).cycles = s.cycles := by
  unfold hostTurn; split
  · rfl
  · rw [hostMoves_foldl_cycles]

@[simp] theorem leaveStop_opAddr (s : State) : (leaveStop s).opAddr = s.opAddr := by
  unfold leaveStop; split_ifs <;> rfl

@[simp] theorem hostMove_opAddr (s : State) (h : HostMove) : (hostMove s h).opAddr = s.opAddr := by
  cases h <;> simp only [hostMove, press, release] <;> (try split_ifs) <;> simp [State.setBtn]

theorem hostMoves_foldl_opAddr (l : List HostMove) (s : State) : (l.foldl hostMove s).opAddr = s.opAddr := by
  induction l generalizing s with
  | nil => rfl
  | cons h t ih => rw [List.foldl_cons, ih, hostMove_opAddr]

@[simp] theorem hostTurn_opAddr (s : State) : (hostTurn s).opAddr = s.opAddr := by
  unfold hostTurn; split
  · rfl
  · rw [hostMoves_foldl_opAddr]

@[simp] theorem leaveStop_hostMoves (s : State) : (leaveStop s).hostMoves = s.hostMoves := by
  unfold leaveStop; split_ifs <;> rfl

@[simp] theorem hostMove_hostMoves (s : State) (h : HostMove) : (hostMove s h).hostMoves = s.hostMoves := by
  cases h <;> simp only [hostMove, press, release] <;> (try split_ifs) <;> simp [State.setBtn]

@[simp] theorem leaveStop_mem (s : State) : (leaveStop s).mem = s.mem := by
  unfold leaveStop; split_ifs <;> rfl

@[simp] theorem hostMove_mem (s : State) (h : HostMove) : (hostMove s h).mem = s.mem := by
  cases h <;> simp only [hostMove, press, release] <;> (try split_ifs) <;> simp [State.setBtn]

theorem hostMoves_foldl_mem (l : List HostMove) (s : State) : (l.foldl hostMove s).mem = s.mem := by
  induction l generalizing s with
  | nil => rfl
  | cons h t ih => rw [List.foldl_cons, ih, hostMove_mem]

@[simp] theorem hostTurn_mem (s : State) : (hostTurn s).mem = s.mem := by
  unfold hostTurn; split
  · rfl
  · rw [hostMoves_foldl_mem]

end Sys2Proof.Machine
end

