-- ==== Sys2Proof/Laws/Devices.lean ====
section
/-! SUPPORT. What the fetch, the bus at a cell, the timer, the PPU's cycle, the renderer's parts and the host's turn of a LOCKED core do, said once. -/

namespace Sys2Proof.Machine

/-! ## The fetch (spec/45_system.md R602) -/

theorem fetched_of_clear {s : State} (h : s.haltRepeat = false) : fetched s = s.setPc (s.regs.pc + 1) := by simp [fetched, h]

theorem fetched_of_repeat {s : State} (h : s.haltRepeat = true) : fetched s = { s with haltRepeat := false } := by simp [fetched, h]

/-- The instruction at PC and the state after its bytes are fetched, when HALT_REPEAT is clear. -/
theorem fetchInstr_of_clear {u : State} (h : u.haltRepeat = false) :
    fetchInstr u = (let b := busRead u u.regs.pc
      (decodeBytes b (if 2 ≤ instrLength b then busRead u (u.regs.pc + 1) else 0) (if 3 ≤ instrLength b then busRead u (u.regs.pc + 2) else 0),
       { u with regs := { u.regs with pc := u.regs.pc + BitVec.ofNat 16 (instrLength b) }, opAddr := u.regs.pc })) := by
  have hl : instrLength (busRead u u.regs.pc) = 1 ∨ instrLength (busRead u u.regs.pc) = 2 ∨ instrLength (busRead u u.regs.pc) = 3 := by
    have : ∀ b : Byte, instrLength b = 1 ∨ instrLength b = 2 ∨ instrLength b = 3 := by decide +kernel
    exact this _
  have hr : ∀ (x : Regs) (a b : Addr), busRead { u with regs := x, opAddr := a } b = busRead u b := fun x a b => busRead_of_bus (s := u) (t := { u with regs := x, opAddr := a }) rfl b
  have g : ∀ x : Addr, x + 1 + 1 = x + 2 := fun x => by rw [add_assoc]; rfl
  have f1 : fetched { u with opAddr := u.regs.pc } = { u with regs := { u.regs with pc := u.regs.pc + 1 }, opAddr := u.regs.pc } := fetched_of_clear h
  have f2 : fetched { u with regs := { u.regs with pc := u.regs.pc + 1 }, opAddr := u.regs.pc } = { u with regs := { u.regs with pc := u.regs.pc + 2 }, opAddr := u.regs.pc } := by
    have := fetched_of_clear (s := { u with regs := { u.regs with pc := u.regs.pc + 1 }, opAddr := u.regs.pc }) h
    rw [this]; simp [State.setPc, add_assoc]
  have f3 : fetched { u with regs := { u.regs with pc := u.regs.pc + 2 }, opAddr := u.regs.pc } = { u with regs := { u.regs with pc := u.regs.pc + 3 }, opAddr := u.regs.pc } := by
    have := fetched_of_clear (s := { u with regs := { u.regs with pc := u.regs.pc + 2 }, opAddr := u.regs.pc }) h
    rw [this]; simp [State.setPc, add_assoc]
  simp only [fetchInstr, fetchByte]
  rcases hl with hl | hl | hl <;> simp only [hl, f1, f2, f3, hr] <;> rfl

/-- A displacement in range is read back from its byte (spec/30_encoding.md R202). -/
theorem e8Byte_toInt (e : Int) (h : Disp.inRange e = true) : (e8Byte e).toInt = e := by
  simp only [Disp.inRange, Bool.and_eq_true, decide_eq_true_eq] at h
  simp only [e8Byte, BitVec.toInt_ofInt, Int.bmod]; omega

/-! ## The bus at a byte of storage (spec/20_memory.md R110, R111) -/

theorem busWrite_of_cell {s : State} {a : Addr} {r : Region} {k : Nat} (h : resolve s.cart a = .cell r k) (v : Byte) :
    busWrite s a v = { s with mem := s.mem.write r k v } := by
  simp only [busWrite, h]

/-- A stored byte is read back at every address that names its cell. -/
theorem busRead_busWrite_same {s : State} (hm : s.mem.wf) {a b : Addr} {r : Region} {k : Nat} (ha : resolve s.cart a = .cell r k)
    (hb : resolve s.cart b = .cell r k) (v : Byte) : busRead (busWrite s a v) b = v := by
  rw [busWrite_of_cell ha]
  simp only [busRead, hb]
  exact Memory.read_write_same hm r k v

/-- A stored byte changes no read at an address that does not name its cell. -/
theorem busRead_busWrite_other {s : State} (hm : s.mem.wf) {a b : Addr} {r : Region} {k : Nat} (ha : resolve s.cart a = .cell r k)
    (hb : resolve s.cart b ≠ .cell r k) (v : Byte) : busRead (busWrite s a v) b = busRead s b := by
  rw [busWrite_of_cell ha]
  have hne := (resolve_cell ha).1
  unfold busRead
  dsimp only
  split <;> rename_i hh <;> rw [hh] at hb <;> (try dsimp only)
  · exact Memory.read_write_other hm (by intro e; apply hb; simp at e; rw [e.1, e.2]) v
  · unfold romRead
    split_ifs
    · exact Memory.read_write_other hm (by intro e; simp at e; exact hne e.1.symm) v
    · rfl
  · rename_i q
    cases q <;> rfl

/-! ## The timer (spec/60_exceptions.md R750-R752) -/

theorem timaPeriod_pos (sel : BitVec 2) : 0 < Config.timaPeriod sel ∧ Config.timaPeriod sel ≤ 1024 := by revert sel; decide

/-- An increment of TIMA changes TIMA and the Timer line alone. -/
theorem timaIncrement_keeps (s : State) :
    (timaIncrement s).timer.timaSub = s.timer.timaSub ∧ (timaIncrement s).timer.enable = s.timer.enable ∧
      (timaIncrement s).timer.sel = s.timer.sel ∧ (timaIncrement s).timer.div = s.timer.div ∧
      (timaIncrement s).timer.divSub = s.timer.divSub ∧ (timaIncrement s).timer.tma = s.timer.tma := by
  unfold timaIncrement
  split <;> exact ⟨rfl, rfl, rfl, rfl, rfl, rfl⟩

theorem timaIncrements_keeps (k : Nat) (s : State) :
    (timaIncrements k s).timer.timaSub = s.timer.timaSub ∧ (timaIncrements k s).timer.enable = s.timer.enable ∧
      (timaIncrements k s).timer.sel = s.timer.sel ∧ (timaIncrements k s).timer.div = s.timer.div ∧
      (timaIncrements k s).timer.divSub = s.timer.divSub ∧ (timaIncrements k s).timer.tma = s.timer.tma := by
  induction k generalizing s with
  | zero => exact ⟨rfl, rfl, rfl, rfl, rfl, rfl⟩
  | succ k ih =>
    obtain ⟨a, b, c, d, e, f⟩ := ih (timaIncrement s)
    obtain ⟨a', b', c', d', e', f'⟩ := timaIncrement_keeps s
    exact ⟨a.trans a', b.trans b', c.trans c', d.trans d', e.trans e', f.trans f'⟩

/-- The sub-counters and DIV play no part in an increment of TIMA. -/
theorem timaIncrement_withSubs (s : State) (x y : Nat) (d : Byte) :
    timaIncrement { s with timer := { s.timer with timaSub := x, divSub := y, div := d } } =
      { timaIncrement s with timer := { (timaIncrement s).timer with timaSub := x, divSub := y, div := d } } := by
  unfold timaIncrement
  by_cases h : s.timer.tima = 0xFF
  · simp only [if_pos h]
    rfl
  · simp only [if_neg h]

theorem timaIncrements_withSubs (k : Nat) (s : State) (x y : Nat) (d : Byte) :
    timaIncrements k { s with timer := { s.timer with timaSub := x, divSub := y, div := d } } =
      { timaIncrements k s with timer := { (timaIncrements k s).timer with timaSub := x, divSub := y, div := d } } := by
  induction k generalizing s with
  | zero => rfl
  | succ k ih =>
    simp only [timaIncrements]
    rw [timaIncrement_withSubs, ih]

/-! ## The PPU's cycle (R820, R821) -/

theorem nextLine_toNat (b : Byte) (h : b.toNat < 154) : (nextLine b).toNat = (b.toNat + 1) % 154 := by
  revert b
  decide

/-- STAT_MODE_INTERRUPTS is false, so a mode entry raises no LCD-status line (R832). -/
theorem modeInt_eq (enabled : Bool) (s : State) : modeInt enabled s = s := rfl

/-- The counters after one cycle. -/
theorem ppuCount_counters (s : State) :
    (ppuCount s).ppu.ly = (if s.ppu.lineCyc + 1 = 456 then nextLine s.ppu.ly else s.ppu.ly) ∧
      (ppuCount s).ppu.lineCyc = (if s.ppu.lineCyc + 1 = 456 then 0 else s.ppu.lineCyc + 1) := by
  unfold ppuCount
  by_cases h : s.ppu.lineCyc + 1 = 456
  · rw [if_pos (show s.ppu.lineCyc + 1 = Config.lineCycles from h), if_pos h, if_pos h]
    simp only [lineChange, lycCheck]
    split <;> split <;> exact ⟨rfl, rfl⟩
  · rw [if_neg (show ¬ s.ppu.lineCyc + 1 = Config.lineCycles from h), if_neg h, if_neg h]
    exact ⟨rfl, rfl⟩

/-- The mode's part of a cycle keeps the counters and leaves MODE the function of them. -/
theorem ppuMode_counters (s : State) :
    (ppuMode s).ppu.ly = s.ppu.ly ∧ (ppuMode s).ppu.lineCyc = s.ppu.lineCyc ∧ (ppuMode s).ppu.mode = modeOf s.ppu.ly s.ppu.lineCyc := by
  unfold ppuMode
  dsimp only
  by_cases h : modeOf s.ppu.ly s.ppu.lineCyc = s.ppu.mode
  · rw [if_pos h]
    exact ⟨rfl, rfl, h.symm⟩
  · rw [if_neg h]
    generalize modeOf s.ppu.ly s.ppu.lineCyc = m
    cases m <;> simp only [modeEntry, modeInt_eq] <;> (try split) <;> (refine ⟨?_, ?_, ?_⟩ <;> first | rfl | trivial)

/-! ## The renderer (R840-R847) -/

theorem ofBool_getLsbD_toNat (v : Byte) (k : Nat) : (BitVec.ofBool (v.getLsbD k)).toNat = v.toNat / 2 ^ k % 2 := by
  rw [BitVec.toNat_ofBool, BitVec.getLsbD, Nat.testBit_eq_decide_div_mod_eq]
  rcases Nat.mod_two_eq_zero_or_one (v.toNat / 2 ^ k) with h | h <;> rw [h] <;> rfl

theorem append_bits_toNat (a b : BitVec 1) : (a ++ b).toNat = 2 * a.toNat + b.toNat := by revert a b; decide

theorem paletteShade_toNat (p : Byte) (c : BitVec 2) : (paletteShade p c).toNat = p.toNat / 4 ^ c.toNat % 4 := by
  simp [paletteShade, BitVec.extractLsb'_toNat, Nat.shiftRight_eq_div_pow, Nat.pow_mul]

/-- The colour index of a tile's pixel, on exact numbers. -/
theorem tilePixel_toNat (m : Memory) (base col row : Nat) :
    (tilePixel m base col row).toNat =
      2 * ((m.read .vram (base + 2 * row + 1 - 0x8000)).toNat / 2 ^ (7 - col) % 2) +
        (m.read .vram (base + 2 * row - 0x8000)).toNat / 2 ^ (7 - col) % 2 := by
  unfold tilePixel
  rw [append_bits_toNat, ofBool_getLsbD_toNat, ofBool_getLsbD_toNat]
  rfl

theorem getLsbD_eq_decide (v : Byte) (k : Nat) : v.getLsbD k = decide (v.toNat / 2 ^ k % 2 = 1) := by
  rw [BitVec.getLsbD, Nat.testBit_eq_decide_div_mod_eq]

/-- The two addressing modes of the background's tiles, on exact numbers. -/
theorem bgTileAddr_eq (lcdc idx : Byte) :
    bgTileAddr lcdc idx = 0x8000 + (if lcdc.toNat / 16 % 2 = 1 ∨ 128 ≤ idx.toNat then idx.toNat * 16 else 0x1000 + idx.toNat * 16) := by
  have h2 := idx.isLt
  unfold bgTileAddr
  rw [getLsbD_eq_decide]
  norm_num only
  by_cases h : lcdc.toNat / 16 % 2 = 1
  · rw [if_pos (by simpa using h), if_pos (Or.inl h)]
  · rw [if_neg (by simpa using h)]
    simp only [BitVec.toInt_eq_toNat_cond]
    by_cases h3 : 128 ≤ idx.toNat
    · rw [if_pos (Or.inr h3), if_neg (by omega)]
      push_cast
      omega
    · rw [if_neg (not_or.2 ⟨h, h3⟩), if_pos (by omega)]
      omega

theorem backLine_length (m : Memory) (p : Ppu) (y : Nat) : (backLine m p y).length = 160 := by
  unfold backLine
  split
  · rw [List.length_map, List.length_range]
    rfl
  · exact List.length_replicate

theorem windowLine_length (m : Memory) (p : Ppu) (y : Nat) : (windowLine m p y).length = 160 := by
  unfold windowLine
  split
  · rw [List.length_zipWith, backLine_length, List.length_range]
    rfl
  · exact backLine_length ..

theorem drawColumn_length (m : Memory) (p : Ppu) (h : Nat) (o : Sprite) (row : Nat) (line : List (BitVec 2)) (col : Nat) :
    (drawColumn m p h o row line col).length = line.length := by
  simp only [drawColumn]
  split <;> simp

theorem drawColumns_length (m : Memory) (p : Ppu) (h : Nat) (o : Sprite) (row : Nat) (cols : List Nat) (line : List (BitVec 2)) :
    (cols.foldl (drawColumn m p h o row) line).length = line.length := by
  induction cols generalizing line with
  | nil => rfl
  | cons c t ih => exact (ih _).trans (drawColumn_length ..)

theorem drawSprite_length (m : Memory) (p : Ppu) (y : Nat) (line : List (BitVec 2)) (o : Sprite) :
    (drawSprite m p y line o).length = line.length := by
  simp only [drawSprite]
  split
  · exact drawColumns_length ..
  · rfl

theorem lineShades_length (m : Memory) (p : Ppu) (y : Nat) : (lineShades m p y).length = 160 := by
  unfold lineShades
  split
  · have h : ∀ (l : List Sprite) (line : List (BitVec 2)), line.length = 160 → (l.foldl (drawSprite m p y) line).length = 160 := by
      intro l
      induction l with
      | nil => exact fun _ h => h
      | cons o t ih => exact fun line h => ih _ ((drawSprite_length ..).trans h)
    exact h _ _ (windowLine_length ..)
  · exact windowLine_length ..

/-- The drawing order relation, said in numbers. -/
theorem Sprite.before_iff (a b : Sprite) :
    a.before b = true ↔ (b.x.toNat < a.x.toNat ∨ (a.x = b.x ∧ a.addr ≤ b.addr)) := by
  simp [Sprite.before]

theorem Sprite.before_total (a b : Sprite) : a.before b = true ∨ b.before a = true := by
  rw [before_iff, before_iff]
  by_cases e : a.x = b.x
  · rcases Nat.le_total a.addr b.addr with h | h
    · exact Or.inl (Or.inr ⟨e, h⟩)
    · exact Or.inr (Or.inr ⟨e.symm, h⟩)
  · have : a.x.toNat ≠ b.x.toNat := fun h => e (BitVec.eq_of_toNat_eq h)
    rcases Nat.lt_or_gt_of_ne this with h | h
    · exact Or.inr (Or.inl h)
    · exact Or.inl (Or.inl h)

theorem Sprite.before_trans {a b c : Sprite} (h : a.before b = true) (h' : b.before c = true) : a.before c = true := by
  rw [before_iff] at *
  rcases h with h | ⟨h, k⟩ <;> rcases h' with h' | ⟨h', k'⟩
  · exact Or.inl (by omega)
  · exact Or.inl (h' ▸ h)
  · exact Or.inl (h ▸ h')
  · exact Or.inr ⟨h.trans h', by omega⟩

theorem insertSprite_perm (a : Sprite) (l : List Sprite) : (insertSprite a l).Perm (a :: l) := by
  induction l with
  | nil => exact .refl _
  | cons b t ih =>
    unfold insertSprite
    split
    · exact .refl _
    · exact (ih.cons b).trans (.swap ..)

/-! ## The host's moves on a LOCKED core (R800, R802, spec/45_system.md R620) -/

/-- Two states that differ at most in the buttons and in the Joypad bit of IF, which the second may have raised. -/
def hostOnly (s u : State) : Prop :=
  ∃ b f, u = { s with joypad := { s.joypad with btn := b }, ifl := f } ∧ (f = s.ifl ∨ f = s.ifl ||| 0b10000)

theorem hostOnly_refl (s : State) : hostOnly s s := ⟨s.joypad.btn, s.ifl, rfl, .inl rfl⟩

theorem hostMove_of_locked {s u : State} (hr : s.run = .locked) (h : hostOnly s u) (m : HostMove) : hostOnly s (hostMove u m) := by
  obtain ⟨b, f, rfl, hf⟩ := h
  cases m with
  | release k => exact ⟨_, _, rfl, hf⟩
  | press k =>
    dsimp only [hostMove, press]
    split_ifs
    · exact ⟨_, _, rfl, hf⟩
    · refine ⟨b.put k true, f ||| 0b10000, ?_, .inr ?_⟩
      · unfold leaveStop raiseInt State.setBtn
        dsimp only
        rw [if_neg (by simp [hr])]
        rfl
      · rcases hf with hf | hf <;> simp only [hf, BitVec.or_assoc] <;> rfl

theorem hostMoves_foldl_of_locked {s : State} (hr : s.run = .locked) (l : List HostMove) :
    ∀ u, hostOnly s u → hostOnly s (l.foldl hostMove u) := by
  induction l with
  | nil => exact fun _ h => h
  | cons m _ ih => exact fun u h => ih _ (hostMove_of_locked hr h m)

/-- All a host's turn can do to a LOCKED core: take a batch, change buttons, raise the Joypad line. -/
theorem hostTurn_of_locked {s : State} (hr : s.run = .locked) : ∃ l, hostOnly { s with hostMoves := l } (hostTurn s) := by
  unfold hostTurn
  split
  · exact ⟨s.hostMoves, hostOnly_refl s⟩
  · rename_i batch rest _
    exact ⟨rest, hostMoves_foldl_of_locked (s := { s with hostMoves := rest }) hr batch _ (hostOnly_refl _)⟩

end Sys2Proof.Machine
end

