-- ==== Sys2Proof/Laws/PerInstr.lean ====
section
/-! SUPPORT. A statement made per instruction: an instruction's words are as long as its first byte says (spec/30_encoding.md R213, R207). -/

namespace Sys2Proof.Laws.EncodeLength

/-- The encoding has the length that its own first byte determines (R213). -/
def Statement (i : Instr) : Prop := (encode i).length = instrLength ((encode i).headD 0)

theorem nop : Statement .nop := by show (1 : Nat) = instrLength 0x00; rfl
theorem ldBcN16 (n : Word) : Statement (.ldBcN16 n) := by show (3 : Nat) = instrLength 0x01; rfl
theorem ldAtBcA : Statement .ldAtBcA := by show (1 : Nat) = instrLength 0x02; rfl
theorem incBc : Statement .incBc := by show (1 : Nat) = instrLength 0x03; rfl
theorem incB : Statement .incB := by show (1 : Nat) = instrLength 0x04; rfl
theorem decB : Statement .decB := by show (1 : Nat) = instrLength 0x05; rfl
theorem ldBN8 (n : Byte) : Statement (.ldBN8 n) := by show (2 : Nat) = instrLength 0x06; rfl
theorem rlca : Statement .rlca := by show (1 : Nat) = instrLength 0x07; rfl
theorem ldAtA16Sp (a : Addr) : Statement (.ldAtA16Sp a) := by show (3 : Nat) = instrLength 0x08; rfl
theorem addHlBc : Statement .addHlBc := by show (1 : Nat) = instrLength 0x09; rfl
theorem ldAAtBc : Statement .ldAAtBc := by show (1 : Nat) = instrLength 0x0A; rfl
theorem decBc : Statement .decBc := by show (1 : Nat) = instrLength 0x0B; rfl
theorem incC : Statement .incC := by show (1 : Nat) = instrLength 0x0C; rfl
theorem decC : Statement .decC := by show (1 : Nat) = instrLength 0x0D; rfl
theorem ldCN8 (n : Byte) : Statement (.ldCN8 n) := by show (2 : Nat) = instrLength 0x0E; rfl
theorem rrca : Statement .rrca := by show (1 : Nat) = instrLength 0x0F; rfl
theorem stop (ign : Byte) : Statement (.stop ign) := by show (2 : Nat) = instrLength 0x10; rfl
theorem ldDeN16 (n : Word) : Statement (.ldDeN16 n) := by show (3 : Nat) = instrLength 0x11; rfl
theorem ldAtDeA : Statement .ldAtDeA := by show (1 : Nat) = instrLength 0x12; rfl
theorem incDe : Statement .incDe := by show (1 : Nat) = instrLength 0x13; rfl
theorem incD : Statement .incD := by show (1 : Nat) = instrLength 0x14; rfl
theorem decD : Statement .decD := by show (1 : Nat) = instrLength 0x15; rfl
theorem ldDN8 (n : Byte) : Statement (.ldDN8 n) := by show (2 : Nat) = instrLength 0x16; rfl
theorem rla : Statement .rla := by show (1 : Nat) = instrLength 0x17; rfl
theorem jrE8 (e : Int) : Statement (.jrE8 e) := by show (2 : Nat) = instrLength 0x18; rfl
theorem addHlDe : Statement .addHlDe := by show (1 : Nat) = instrLength 0x19; rfl
theorem ldAAtDe : Statement .ldAAtDe := by show (1 : Nat) = instrLength 0x1A; rfl
theorem decDe : Statement .decDe := by show (1 : Nat) = instrLength 0x1B; rfl
theorem incE : Statement .incE := by show (1 : Nat) = instrLength 0x1C; rfl
theorem decE : Statement .decE := by show (1 : Nat) = instrLength 0x1D; rfl
theorem ldEN8 (n : Byte) : Statement (.ldEN8 n) := by show (2 : Nat) = instrLength 0x1E; rfl
theorem rra : Statement .rra := by show (1 : Nat) = instrLength 0x1F; rfl
theorem jrNzE8 (e : Int) : Statement (.jrNzE8 e) := by show (2 : Nat) = instrLength 0x20; rfl
theorem ldHlN16 (n : Word) : Statement (.ldHlN16 n) := by show (3 : Nat) = instrLength 0x21; rfl
theorem ldAtHlIncA : Statement .ldAtHlIncA := by show (1 : Nat) = instrLength 0x22; rfl
theorem incHl : Statement .incHl := by show (1 : Nat) = instrLength 0x23; rfl
theorem incH : Statement .incH := by show (1 : Nat) = instrLength 0x24; rfl
theorem decH : Statement .decH := by show (1 : Nat) = instrLength 0x25; rfl
theorem ldHN8 (n : Byte) : Statement (.ldHN8 n) := by show (2 : Nat) = instrLength 0x26; rfl
theorem daa : Statement .daa := by show (1 : Nat) = instrLength 0x27; rfl
theorem jrZE8 (e : Int) : Statement (.jrZE8 e) := by show (2 : Nat) = instrLength 0x28; rfl
theorem addHlHl : Statement .addHlHl := by show (1 : Nat) = instrLength 0x29; rfl
theorem ldAAtHlInc : Statement .ldAAtHlInc := by show (1 : Nat) = instrLength 0x2A; rfl
theorem decHl : Statement .decHl := by show (1 : Nat) = instrLength 0x2B; rfl
theorem incL : Statement .incL := by show (1 : Nat) = instrLength 0x2C; rfl
theorem decL : Statement .decL := by show (1 : Nat) = instrLength 0x2D; rfl
theorem ldLN8 (n : Byte) : Statement (.ldLN8 n) := by show (2 : Nat) = instrLength 0x2E; rfl
theorem cpl : Statement .cpl := by show (1 : Nat) = instrLength 0x2F; rfl
theorem jrNcE8 (e : Int) : Statement (.jrNcE8 e) := by show (2 : Nat) = instrLength 0x30; rfl
theorem ldSpN16 (n : Word) : Statement (.ldSpN16 n) := by show (3 : Nat) = instrLength 0x31; rfl
theorem ldAtHlDecA : Statement .ldAtHlDecA := by show (1 : Nat) = instrLength 0x32; rfl
theorem incSp : Statement .incSp := by show (1 : Nat) = instrLength 0x33; rfl
theorem incAtHl : Statement .incAtHl := by show (1 : Nat) = instrLength 0x34; rfl
theorem decAtHl : Statement .decAtHl := by show (1 : Nat) = instrLength 0x35; rfl
theorem ldAtHlN8 (n : Byte) : Statement (.ldAtHlN8 n) := by show (2 : Nat) = instrLength 0x36; rfl
theorem scf : Statement .scf := by show (1 : Nat) = instrLength 0x37; rfl
theorem jrCE8 (e : Int) : Statement (.jrCE8 e) := by show (2 : Nat) = instrLength 0x38; rfl
theorem addHlSp : Statement .addHlSp := by show (1 : Nat) = instrLength 0x39; rfl
theorem ldAAtHlDec : Statement .ldAAtHlDec := by show (1 : Nat) = instrLength 0x3A; rfl
theorem decSp : Statement .decSp := by show (1 : Nat) = instrLength 0x3B; rfl
theorem incA : Statement .incA := by show (1 : Nat) = instrLength 0x3C; rfl
theorem decA : Statement .decA := by show (1 : Nat) = instrLength 0x3D; rfl
theorem ldAN8 (n : Byte) : Statement (.ldAN8 n) := by show (2 : Nat) = instrLength 0x3E; rfl
theorem ccf : Statement .ccf := by show (1 : Nat) = instrLength 0x3F; rfl
theorem ldBB : Statement .ldBB := by show (1 : Nat) = instrLength 0x40; rfl
theorem ldBC : Statement .ldBC := by show (1 : Nat) = instrLength 0x41; rfl
theorem ldBD : Statement .ldBD := by show (1 : Nat) = instrLength 0x42; rfl
theorem ldBE : Statement .ldBE := by show (1 : Nat) = instrLength 0x43; rfl
theorem ldBH : Statement .ldBH := by show (1 : Nat) = instrLength 0x44; rfl
theorem ldBL : Statement .ldBL := by show (1 : Nat) = instrLength 0x45; rfl
theorem ldBAtHl : Statement .ldBAtHl := by show (1 : Nat) = instrLength 0x46; rfl
theorem ldBA : Statement .ldBA := by show (1 : Nat) = instrLength 0x47; rfl
theorem ldCB : Statement .ldCB := by show (1 : Nat) = instrLength 0x48; rfl
theorem ldCC : Statement .ldCC := by show (1 : Nat) = instrLength 0x49; rfl
theorem ldCD : Statement .ldCD := by show (1 : Nat) = instrLength 0x4A; rfl
theorem ldCE : Statement .ldCE := by show (1 : Nat) = instrLength 0x4B; rfl
theorem ldCH : Statement .ldCH := by show (1 : Nat) = instrLength 0x4C; rfl
theorem ldCL : Statement .ldCL := by show (1 : Nat) = instrLength 0x4D; rfl
theorem ldCAtHl : Statement .ldCAtHl := by show (1 : Nat) = instrLength 0x4E; rfl
theorem ldCA : Statement .ldCA := by show (1 : Nat) = instrLength 0x4F; rfl
theorem ldDB : Statement .ldDB := by show (1 : Nat) = instrLength 0x50; rfl
theorem ldDC : Statement .ldDC := by show (1 : Nat) = instrLength 0x51; rfl
theorem ldDD : Statement .ldDD := by show (1 : Nat) = instrLength 0x52; rfl
theorem ldDE : Statement .ldDE := by show (1 : Nat) = instrLength 0x53; rfl
theorem ldDH : Statement .ldDH := by show (1 : Nat) = instrLength 0x54; rfl
theorem ldDL : Statement .ldDL := by show (1 : Nat) = instrLength 0x55; rfl
theorem ldDAtHl : Statement .ldDAtHl := by show (1 : Nat) = instrLength 0x56; rfl
theorem ldDA : Statement .ldDA := by show (1 : Nat) = instrLength 0x57; rfl
theorem ldEB : Statement .ldEB := by show (1 : Nat) = instrLength 0x58; rfl
theorem ldEC : Statement .ldEC := by show (1 : Nat) = instrLength 0x59; rfl
theorem ldED : Statement .ldED := by show (1 : Nat) = instrLength 0x5A; rfl
theorem ldEE : Statement .ldEE := by show (1 : Nat) = instrLength 0x5B; rfl
theorem ldEH : Statement .ldEH := by show (1 : Nat) = instrLength 0x5C; rfl
theorem ldEL : Statement .ldEL := by show (1 : Nat) = instrLength 0x5D; rfl
theorem ldEAtHl : Statement .ldEAtHl := by show (1 : Nat) = instrLength 0x5E; rfl
theorem ldEA : Statement .ldEA := by show (1 : Nat) = instrLength 0x5F; rfl
theorem ldHB : Statement .ldHB := by show (1 : Nat) = instrLength 0x60; rfl
theorem ldHC : Statement .ldHC := by show (1 : Nat) = instrLength 0x61; rfl
theorem ldHD : Statement .ldHD := by show (1 : Nat) = instrLength 0x62; rfl
theorem ldHE : Statement .ldHE := by show (1 : Nat) = instrLength 0x63; rfl
theorem ldHH : Statement .ldHH := by show (1 : Nat) = instrLength 0x64; rfl
theorem ldHL : Statement .ldHL := by show (1 : Nat) = instrLength 0x65; rfl
theorem ldHAtHl : Statement .ldHAtHl := by show (1 : Nat) = instrLength 0x66; rfl
theorem ldHA : Statement .ldHA := by show (1 : Nat) = instrLength 0x67; rfl
theorem ldLB : Statement .ldLB := by show (1 : Nat) = instrLength 0x68; rfl
theorem ldLC : Statement .ldLC := by show (1 : Nat) = instrLength 0x69; rfl
theorem ldLD : Statement .ldLD := by show (1 : Nat) = instrLength 0x6A; rfl
theorem ldLE : Statement .ldLE := by show (1 : Nat) = instrLength 0x6B; rfl
theorem ldLH : Statement .ldLH := by show (1 : Nat) = instrLength 0x6C; rfl
theorem ldLL : Statement .ldLL := by show (1 : Nat) = instrLength 0x6D; rfl
theorem ldLAtHl : Statement .ldLAtHl := by show (1 : Nat) = instrLength 0x6E; rfl
theorem ldLA : Statement .ldLA := by show (1 : Nat) = instrLength 0x6F; rfl
theorem ldAtHlB : Statement .ldAtHlB := by show (1 : Nat) = instrLength 0x70; rfl
theorem ldAtHlC : Statement .ldAtHlC := by show (1 : Nat) = instrLength 0x71; rfl
theorem ldAtHlD : Statement .ldAtHlD := by show (1 : Nat) = instrLength 0x72; rfl
theorem ldAtHlE : Statement .ldAtHlE := by show (1 : Nat) = instrLength 0x73; rfl
theorem ldAtHlH : Statement .ldAtHlH := by show (1 : Nat) = instrLength 0x74; rfl
theorem ldAtHlL : Statement .ldAtHlL := by show (1 : Nat) = instrLength 0x75; rfl
theorem halt : Statement .halt := by show (1 : Nat) = instrLength 0x76; rfl
theorem ldAtHlA : Statement .ldAtHlA := by show (1 : Nat) = instrLength 0x77; rfl
theorem ldAB : Statement .ldAB := by show (1 : Nat) = instrLength 0x78; rfl
theorem ldAC : Statement .ldAC := by show (1 : Nat) = instrLength 0x79; rfl
theorem ldAD : Statement .ldAD := by show (1 : Nat) = instrLength 0x7A; rfl
theorem ldAE : Statement .ldAE := by show (1 : Nat) = instrLength 0x7B; rfl
theorem ldAH : Statement .ldAH := by show (1 : Nat) = instrLength 0x7C; rfl
theorem ldAL : Statement .ldAL := by show (1 : Nat) = instrLength 0x7D; rfl
theorem ldAAtHl : Statement .ldAAtHl := by show (1 : Nat) = instrLength 0x7E; rfl
theorem ldAA : Statement .ldAA := by show (1 : Nat) = instrLength 0x7F; rfl
theorem addAB : Statement .addAB := by show (1 : Nat) = instrLength 0x80; rfl
theorem addAC : Statement .addAC := by show (1 : Nat) = instrLength 0x81; rfl
theorem addAD : Statement .addAD := by show (1 : Nat) = instrLength 0x82; rfl
theorem addAE : Statement .addAE := by show (1 : Nat) = instrLength 0x83; rfl
theorem addAH : Statement .addAH := by show (1 : Nat) = instrLength 0x84; rfl
theorem addAL : Statement .addAL := by show (1 : Nat) = instrLength 0x85; rfl
theorem addAAtHl : Statement .addAAtHl := by show (1 : Nat) = instrLength 0x86; rfl
theorem addAA : Statement .addAA := by show (1 : Nat) = instrLength 0x87; rfl
theorem adcAB : Statement .adcAB := by show (1 : Nat) = instrLength 0x88; rfl
theorem adcAC : Statement .adcAC := by show (1 : Nat) = instrLength 0x89; rfl
theorem adcAD : Statement .adcAD := by show (1 : Nat) = instrLength 0x8A; rfl
theorem adcAE : Statement .adcAE := by show (1 : Nat) = instrLength 0x8B; rfl
theorem adcAH : Statement .adcAH := by show (1 : Nat) = instrLength 0x8C; rfl
theorem adcAL : Statement .adcAL := by show (1 : Nat) = instrLength 0x8D; rfl
theorem adcAAtHl : Statement .adcAAtHl := by show (1 : Nat) = instrLength 0x8E; rfl
theorem adcAA : Statement .adcAA := by show (1 : Nat) = instrLength 0x8F; rfl
theorem subAB : Statement .subAB := by show (1 : Nat) = instrLength 0x90; rfl
theorem subAC : Statement .subAC := by show (1 : Nat) = instrLength 0x91; rfl
theorem subAD : Statement .subAD := by show (1 : Nat) = instrLength 0x92; rfl
theorem subAE : Statement .subAE := by show (1 : Nat) = instrLength 0x93; rfl
theorem subAH : Statement .subAH := by show (1 : Nat) = instrLength 0x94; rfl
theorem subAL : Statement .subAL := by show (1 : Nat) = instrLength 0x95; rfl
theorem subAAtHl : Statement .subAAtHl := by show (1 : Nat) = instrLength 0x96; rfl
theorem subAA : Statement .subAA := by show (1 : Nat) = instrLength 0x97; rfl
theorem sbcAB : Statement .sbcAB := by show (1 : Nat) = instrLength 0x98; rfl
theorem sbcAC : Statement .sbcAC := by show (1 : Nat) = instrLength 0x99; rfl
theorem sbcAD : Statement .sbcAD := by show (1 : Nat) = instrLength 0x9A; rfl
theorem sbcAE : Statement .sbcAE := by show (1 : Nat) = instrLength 0x9B; rfl
theorem sbcAH : Statement .sbcAH := by show (1 : Nat) = instrLength 0x9C; rfl
theorem sbcAL : Statement .sbcAL := by show (1 : Nat) = instrLength 0x9D; rfl
theorem sbcAAtHl : Statement .sbcAAtHl := by show (1 : Nat) = instrLength 0x9E; rfl
theorem sbcAA : Statement .sbcAA := by show (1 : Nat) = instrLength 0x9F; rfl
theorem andAB : Statement .andAB := by show (1 : Nat) = instrLength 0xA0; rfl
theorem andAC : Statement .andAC := by show (1 : Nat) = instrLength 0xA1; rfl
theorem andAD : Statement .andAD := by show (1 : Nat) = instrLength 0xA2; rfl
theorem andAE : Statement .andAE := by show (1 : Nat) = instrLength 0xA3; rfl
theorem andAH : Statement .andAH := by show (1 : Nat) = instrLength 0xA4; rfl
theorem andAL : Statement .andAL := by show (1 : Nat) = instrLength 0xA5; rfl
theorem andAAtHl : Statement .andAAtHl := by show (1 : Nat) = instrLength 0xA6; rfl
theorem andAA : Statement .andAA := by show (1 : Nat) = instrLength 0xA7; rfl
theorem xorAB : Statement .xorAB := by show (1 : Nat) = instrLength 0xA8; rfl
theorem xorAC : Statement .xorAC := by show (1 : Nat) = instrLength 0xA9; rfl
theorem xorAD : Statement .xorAD := by show (1 : Nat) = instrLength 0xAA; rfl
theorem xorAE : Statement .xorAE := by show (1 : Nat) = instrLength 0xAB; rfl
theorem xorAH : Statement .xorAH := by show (1 : Nat) = instrLength 0xAC; rfl
theorem xorAL : Statement .xorAL := by show (1 : Nat) = instrLength 0xAD; rfl
theorem xorAAtHl : Statement .xorAAtHl := by show (1 : Nat) = instrLength 0xAE; rfl
theorem xorAA : Statement .xorAA := by show (1 : Nat) = instrLength 0xAF; rfl
theorem orAB : Statement .orAB := by show (1 : Nat) = instrLength 0xB0; rfl
theorem orAC : Statement .orAC := by show (1 : Nat) = instrLength 0xB1; rfl
theorem orAD : Statement .orAD := by show (1 : Nat) = instrLength 0xB2; rfl
theorem orAE : Statement .orAE := by show (1 : Nat) = instrLength 0xB3; rfl
theorem orAH : Statement .orAH := by show (1 : Nat) = instrLength 0xB4; rfl
theorem orAL : Statement .orAL := by show (1 : Nat) = instrLength 0xB5; rfl
theorem orAAtHl : Statement .orAAtHl := by show (1 : Nat) = instrLength 0xB6; rfl
theorem orAA : Statement .orAA := by show (1 : Nat) = instrLength 0xB7; rfl
theorem cpAB : Statement .cpAB := by show (1 : Nat) = instrLength 0xB8; rfl
theorem cpAC : Statement .cpAC := by show (1 : Nat) = instrLength 0xB9; rfl
theorem cpAD : Statement .cpAD := by show (1 : Nat) = instrLength 0xBA; rfl
theorem cpAE : Statement .cpAE := by show (1 : Nat) = instrLength 0xBB; rfl
theorem cpAH : Statement .cpAH := by show (1 : Nat) = instrLength 0xBC; rfl
theorem cpAL : Statement .cpAL := by show (1 : Nat) = instrLength 0xBD; rfl
theorem cpAAtHl : Statement .cpAAtHl := by show (1 : Nat) = instrLength 0xBE; rfl
theorem cpAA : Statement .cpAA := by show (1 : Nat) = instrLength 0xBF; rfl
theorem retNz : Statement .retNz := by show (1 : Nat) = instrLength 0xC0; rfl
theorem popBc : Statement .popBc := by show (1 : Nat) = instrLength 0xC1; rfl
theorem jpNzA16 (a : Addr) : Statement (.jpNzA16 a) := by show (3 : Nat) = instrLength 0xC2; rfl
theorem jpA16 (a : Addr) : Statement (.jpA16 a) := by show (3 : Nat) = instrLength 0xC3; rfl
theorem callNzA16 (a : Addr) : Statement (.callNzA16 a) := by show (3 : Nat) = instrLength 0xC4; rfl
theorem pushBc : Statement .pushBc := by show (1 : Nat) = instrLength 0xC5; rfl
theorem addAN8 (n : Byte) : Statement (.addAN8 n) := by show (2 : Nat) = instrLength 0xC6; rfl
theorem rst00 : Statement .rst00 := by show (1 : Nat) = instrLength 0xC7; rfl
theorem retZ : Statement .retZ := by show (1 : Nat) = instrLength 0xC8; rfl
theorem ret : Statement .ret := by show (1 : Nat) = instrLength 0xC9; rfl
theorem jpZA16 (a : Addr) : Statement (.jpZA16 a) := by show (3 : Nat) = instrLength 0xCA; rfl
theorem callZA16 (a : Addr) : Statement (.callZA16 a) := by show (3 : Nat) = instrLength 0xCC; rfl
theorem callA16 (a : Addr) : Statement (.callA16 a) := by show (3 : Nat) = instrLength 0xCD; rfl
theorem adcAN8 (n : Byte) : Statement (.adcAN8 n) := by show (2 : Nat) = instrLength 0xCE; rfl
theorem rst08 : Statement .rst08 := by show (1 : Nat) = instrLength 0xCF; rfl
theorem retNc : Statement .retNc := by show (1 : Nat) = instrLength 0xD0; rfl
theorem popDe : Statement .popDe := by show (1 : Nat) = instrLength 0xD1; rfl
theorem jpNcA16 (a : Addr) : Statement (.jpNcA16 a) := by show (3 : Nat) = instrLength 0xD2; rfl
theorem illegalD3 : Statement .illegalD3 := by show (1 : Nat) = instrLength 0xD3; rfl
theorem callNcA16 (a : Addr) : Statement (.callNcA16 a) := by show (3 : Nat) = instrLength 0xD4; rfl
theorem pushDe : Statement .pushDe := by show (1 : Nat) = instrLength 0xD5; rfl
theorem subAN8 (n : Byte) : Statement (.subAN8 n) := by show (2 : Nat) = instrLength 0xD6; rfl
theorem rst10 : Statement .rst10 := by show (1 : Nat) = instrLength 0xD7; rfl
theorem retC : Statement .retC := by show (1 : Nat) = instrLength 0xD8; rfl
theorem reti : Statement .reti := by show (1 : Nat) = instrLength 0xD9; rfl
theorem jpCA16 (a : Addr) : Statement (.jpCA16 a) := by show (3 : Nat) = instrLength 0xDA; rfl
theorem illegalDB : Statement .illegalDB := by show (1 : Nat) = instrLength 0xDB; rfl
theorem callCA16 (a : Addr) : Statement (.callCA16 a) := by show (3 : Nat) = instrLength 0xDC; rfl
theorem illegalDD : Statement .illegalDD := by show (1 : Nat) = instrLength 0xDD; rfl
theorem sbcAN8 (n : Byte) : Statement (.sbcAN8 n) := by show (2 : Nat) = instrLength 0xDE; rfl
theorem rst18 : Statement .rst18 := by show (1 : Nat) = instrLength 0xDF; rfl
theorem ldhAtA8A (a : Byte) : Statement (.ldhAtA8A a) := by show (2 : Nat) = instrLength 0xE0; rfl
theorem popHl : Statement .popHl := by show (1 : Nat) = instrLength 0xE1; rfl
theorem ldAtCA : Statement .ldAtCA := by show (1 : Nat) = instrLength 0xE2; rfl
theorem illegalE3 : Statement .illegalE3 := by show (1 : Nat) = instrLength 0xE3; rfl
theorem illegalE4 : Statement .illegalE4 := by show (1 : Nat) = instrLength 0xE4; rfl
theorem pushHl : Statement .pushHl := by show (1 : Nat) = instrLength 0xE5; rfl
theorem andAN8 (n : Byte) : Statement (.andAN8 n) := by show (2 : Nat) = instrLength 0xE6; rfl
theorem rst20 : Statement .rst20 := by show (1 : Nat) = instrLength 0xE7; rfl
theorem addSpE8 (e : Int) : Statement (.addSpE8 e) := by show (2 : Nat) = instrLength 0xE8; rfl
theorem jpHl : Statement .jpHl := by show (1 : Nat) = instrLength 0xE9; rfl
theorem ldAtA16A (a : Addr) : Statement (.ldAtA16A a) := by show (3 : Nat) = instrLength 0xEA; rfl
theorem illegalEB : Statement .illegalEB := by show (1 : Nat) = instrLength 0xEB; rfl
theorem illegalEC : Statement .illegalEC := by show (1 : Nat) = instrLength 0xEC; rfl
theorem illegalED : Statement .illegalED := by show (1 : Nat) = instrLength 0xED; rfl
theorem xorAN8 (n : Byte) : Statement (.xorAN8 n) := by show (2 : Nat) = instrLength 0xEE; rfl
theorem rst28 : Statement .rst28 := by show (1 : Nat) = instrLength 0xEF; rfl
theorem ldhAAtA8 (a : Byte) : Statement (.ldhAAtA8 a) := by show (2 : Nat) = instrLength 0xF0; rfl
theorem popAf : Statement .popAf := by show (1 : Nat) = instrLength 0xF1; rfl
theorem ldAAtC : Statement .ldAAtC := by show (1 : Nat) = instrLength 0xF2; rfl
theorem di : Statement .di := by show (1 : Nat) = instrLength 0xF3; rfl
theorem illegalF4 : Statement .illegalF4 := by show (1 : Nat) = instrLength 0xF4; rfl
theorem pushAf : Statement .pushAf := by show (1 : Nat) = instrLength 0xF5; rfl
theorem orAN8 (n : Byte) : Statement (.orAN8 n) := by show (2 : Nat) = instrLength 0xF6; rfl
theorem rst30 : Statement .rst30 := by show (1 : Nat) = instrLength 0xF7; rfl
theorem ldHlSpE8 (e : Int) : Statement (.ldHlSpE8 e) := by show (2 : Nat) = instrLength 0xF8; rfl
theorem ldSpHl : Statement .ldSpHl := by show (1 : Nat) = instrLength 0xF9; rfl
theorem ldAAtA16 (a : Addr) : Statement (.ldAAtA16 a) := by show (3 : Nat) = instrLength 0xFA; rfl
theorem ei : Statement .ei := by show (1 : Nat) = instrLength 0xFB; rfl
theorem illegalFC : Statement .illegalFC := by show (1 : Nat) = instrLength 0xFC; rfl
theorem illegalFD : Statement .illegalFD := by show (1 : Nat) = instrLength 0xFD; rfl
theorem cpAN8 (n : Byte) : Statement (.cpAN8 n) := by show (2 : Nat) = instrLength 0xFE; rfl
theorem rst38 : Statement .rst38 := by show (1 : Nat) = instrLength 0xFF; rfl
theorem rlcB : Statement .rlcB := by show (2 : Nat) = instrLength 0xCB; rfl
theorem rlcC : Statement .rlcC := by show (2 : Nat) = instrLength 0xCB; rfl
theorem rlcD : Statement .rlcD := by show (2 : Nat) = instrLength 0xCB; rfl
theorem rlcE : Statement .rlcE := by show (2 : Nat) = instrLength 0xCB; rfl
theorem rlcH : Statement .rlcH := by show (2 : Nat) = instrLength 0xCB; rfl
theorem rlcL : Statement .rlcL := by show (2 : Nat) = instrLength 0xCB; rfl
theorem rlcAtHl : Statement .rlcAtHl := by show (2 : Nat) = instrLength 0xCB; rfl
theorem rlcA : Statement .rlcA := by show (2 : Nat) = instrLength 0xCB; rfl
theorem rrcB : Statement .rrcB := by show (2 : Nat) = instrLength 0xCB; rfl
theorem rrcC : Statement .rrcC := by show (2 : Nat) = instrLength 0xCB; rfl
theorem rrcD : Statement .rrcD := by show (2 : Nat) = instrLength 0xCB; rfl
theorem rrcE : Statement .rrcE := by show (2 : Nat) = instrLength 0xCB; rfl
theorem rrcH : Statement .rrcH := by show (2 : Nat) = instrLength 0xCB; rfl
theorem rrcL : Statement .rrcL := by show (2 : Nat) = instrLength 0xCB; rfl
theorem rrcAtHl : Statement .rrcAtHl := by show (2 : Nat) = instrLength 0xCB; rfl
theorem rrcA : Statement .rrcA := by show (2 : Nat) = instrLength 0xCB; rfl
theorem rlB : Statement .rlB := by show (2 : Nat) = instrLength 0xCB; rfl
theorem rlC : Statement .rlC := by show (2 : Nat) = instrLength 0xCB; rfl
theorem rlD : Statement .rlD := by show (2 : Nat) = instrLength 0xCB; rfl
theorem rlE : Statement .rlE := by show (2 : Nat) = instrLength 0xCB; rfl
theorem rlH : Statement .rlH := by show (2 : Nat) = instrLength 0xCB; rfl
theorem rlL : Statement .rlL := by show (2 : Nat) = instrLength 0xCB; rfl
theorem rlAtHl : Statement .rlAtHl := by show (2 : Nat) = instrLength 0xCB; rfl
theorem rlA : Statement .rlA := by show (2 : Nat) = instrLength 0xCB; rfl
theorem rrB : Statement .rrB := by show (2 : Nat) = instrLength 0xCB; rfl
theorem rrC : Statement .rrC := by show (2 : Nat) = instrLength 0xCB; rfl
theorem rrD : Statement .rrD := by show (2 : Nat) = instrLength 0xCB; rfl
theorem rrE : Statement .rrE := by show (2 : Nat) = instrLength 0xCB; rfl
theorem rrH : Statement .rrH := by show (2 : Nat) = instrLength 0xCB; rfl
theorem rrL : Statement .rrL := by show (2 : Nat) = instrLength 0xCB; rfl
theorem rrAtHl : Statement .rrAtHl := by show (2 : Nat) = instrLength 0xCB; rfl
theorem rrA : Statement .rrA := by show (2 : Nat) = instrLength 0xCB; rfl
theorem slaB : Statement .slaB := by show (2 : Nat) = instrLength 0xCB; rfl
theorem slaC : Statement .slaC := by show (2 : Nat) = instrLength 0xCB; rfl
theorem slaD : Statement .slaD := by show (2 : Nat) = instrLength 0xCB; rfl
theorem slaE : Statement .slaE := by show (2 : Nat) = instrLength 0xCB; rfl
theorem slaH : Statement .slaH := by show (2 : Nat) = instrLength 0xCB; rfl
theorem slaL : Statement .slaL := by show (2 : Nat) = instrLength 0xCB; rfl
theorem slaAtHl : Statement .slaAtHl := by show (2 : Nat) = instrLength 0xCB; rfl
theorem slaA : Statement .slaA := by show (2 : Nat) = instrLength 0xCB; rfl
theorem sraB : Statement .sraB := by show (2 : Nat) = instrLength 0xCB; rfl
theorem sraC : Statement .sraC := by show (2 : Nat) = instrLength 0xCB; rfl
theorem sraD : Statement .sraD := by show (2 : Nat) = instrLength 0xCB; rfl
theorem sraE : Statement .sraE := by show (2 : Nat) = instrLength 0xCB; rfl
theorem sraH : Statement .sraH := by show (2 : Nat) = instrLength 0xCB; rfl
theorem sraL : Statement .sraL := by show (2 : Nat) = instrLength 0xCB; rfl
theorem sraAtHl : Statement .sraAtHl := by show (2 : Nat) = instrLength 0xCB; rfl
theorem sraA : Statement .sraA := by show (2 : Nat) = instrLength 0xCB; rfl
theorem swapB : Statement .swapB := by show (2 : Nat) = instrLength 0xCB; rfl
theorem swapC : Statement .swapC := by show (2 : Nat) = instrLength 0xCB; rfl
theorem swapD : Statement .swapD := by show (2 : Nat) = instrLength 0xCB; rfl
theorem swapE : Statement .swapE := by show (2 : Nat) = instrLength 0xCB; rfl
theorem swapH : Statement .swapH := by show (2 : Nat) = instrLength 0xCB; rfl
theorem swapL : Statement .swapL := by show (2 : Nat) = instrLength 0xCB; rfl
theorem swapAtHl : Statement .swapAtHl := by show (2 : Nat) = instrLength 0xCB; rfl
theorem swapA : Statement .swapA := by show (2 : Nat) = instrLength 0xCB; rfl
theorem srlB : Statement .srlB := by show (2 : Nat) = instrLength 0xCB; rfl
theorem srlC : Statement .srlC := by show (2 : Nat) = instrLength 0xCB; rfl
theorem srlD : Statement .srlD := by show (2 : Nat) = instrLength 0xCB; rfl
theorem srlE : Statement .srlE := by show (2 : Nat) = instrLength 0xCB; rfl
theorem srlH : Statement .srlH := by show (2 : Nat) = instrLength 0xCB; rfl
theorem srlL : Statement .srlL := by show (2 : Nat) = instrLength 0xCB; rfl
theorem srlAtHl : Statement .srlAtHl := by show (2 : Nat) = instrLength 0xCB; rfl
theorem srlA : Statement .srlA := by show (2 : Nat) = instrLength 0xCB; rfl
theorem bit0B : Statement .bit0B := by show (2 : Nat) = instrLength 0xCB; rfl
theorem bit0C : Statement .bit0C := by show (2 : Nat) = instrLength 0xCB; rfl
theorem bit0D : Statement .bit0D := by show (2 : Nat) = instrLength 0xCB; rfl
theorem bit0E : Statement .bit0E := by show (2 : Nat) = instrLength 0xCB; rfl
theorem bit0H : Statement .bit0H := by show (2 : Nat) = instrLength 0xCB; rfl
theorem bit0L : Statement .bit0L := by show (2 : Nat) = instrLength 0xCB; rfl
theorem bit0AtHl : Statement .bit0AtHl := by show (2 : Nat) = instrLength 0xCB; rfl
theorem bit0A : Statement .bit0A := by show (2 : Nat) = instrLength 0xCB; rfl
theorem bit1B : Statement .bit1B := by show (2 : Nat) = instrLength 0xCB; rfl
theorem bit1C : Statement .bit1C := by show (2 : Nat) = instrLength 0xCB; rfl
theorem bit1D : Statement .bit1D := by show (2 : Nat) = instrLength 0xCB; rfl
theorem bit1E : Statement .bit1E := by show (2 : Nat) = instrLength 0xCB; rfl
theorem bit1H : Statement .bit1H := by show (2 : Nat) = instrLength 0xCB; rfl
theorem bit1L : Statement .bit1L := by show (2 : Nat) = instrLength 0xCB; rfl
theorem bit1AtHl : Statement .bit1AtHl := by show (2 : Nat) = instrLength 0xCB; rfl
theorem bit1A : Statement .bit1A := by show (2 : Nat) = instrLength 0xCB; rfl
theorem bit2B : Statement .bit2B := by show (2 : Nat) = instrLength 0xCB; rfl
theorem bit2C : Statement .bit2C := by show (2 : Nat) = instrLength 0xCB; rfl
theorem bit2D : Statement .bit2D := by show (2 : Nat) = instrLength 0xCB; rfl
theorem bit2E : Statement .bit2E := by show (2 : Nat) = instrLength 0xCB; rfl
theorem bit2H : Statement .bit2H := by show (2 : Nat) = instrLength 0xCB; rfl
theorem bit2L : Statement .bit2L := by show (2 : Nat) = instrLength 0xCB; rfl
theorem bit2AtHl : Statement .bit2AtHl := by show (2 : Nat) = instrLength 0xCB; rfl
theorem bit2A : Statement .bit2A := by show (2 : Nat) = instrLength 0xCB; rfl
theorem bit3B : Statement .bit3B := by show (2 : Nat) = instrLength 0xCB; rfl
theorem bit3C : Statement .bit3C := by show (2 : Nat) = instrLength 0xCB; rfl
theorem bit3D : Statement .bit3D := by show (2 : Nat) = instrLength 0xCB; rfl
theorem bit3E : Statement .bit3E := by show (2 : Nat) = instrLength 0xCB; rfl
theorem bit3H : Statement .bit3H := by show (2 : Nat) = instrLength 0xCB; rfl
theorem bit3L : Statement .bit3L := by show (2 : Nat) = instrLength 0xCB; rfl
theorem bit3AtHl : Statement .bit3AtHl := by show (2 : Nat) = instrLength 0xCB; rfl
theorem bit3A : Statement .bit3A := by show (2 : Nat) = instrLength 0xCB; rfl
theorem bit4B : Statement .bit4B := by show (2 : Nat) = instrLength 0xCB; rfl
theorem bit4C : Statement .bit4C := by show (2 : Nat) = instrLength 0xCB; rfl
theorem bit4D : Statement .bit4D := by show (2 : Nat) = instrLength 0xCB; rfl
theorem bit4E : Statement .bit4E := by show (2 : Nat) = instrLength 0xCB; rfl
theorem bit4H : Statement .bit4H := by show (2 : Nat) = instrLength 0xCB; rfl
theorem bit4L : Statement .bit4L := by show (2 : Nat) = instrLength 0xCB; rfl
theorem bit4AtHl : Statement .bit4AtHl := by show (2 : Nat) = instrLength 0xCB; rfl
theorem bit4A : Statement .bit4A := by show (2 : Nat) = instrLength 0xCB; rfl
theorem bit5B : Statement .bit5B := by show (2 : Nat) = instrLength 0xCB; rfl
theorem bit5C : Statement .bit5C := by show (2 : Nat) = instrLength 0xCB; rfl
theorem bit5D : Statement .bit5D := by show (2 : Nat) = instrLength 0xCB; rfl
theorem bit5E : Statement .bit5E := by show (2 : Nat) = instrLength 0xCB; rfl
theorem bit5H : Statement .bit5H := by show (2 : Nat) = instrLength 0xCB; rfl
theorem bit5L : Statement .bit5L := by show (2 : Nat) = instrLength 0xCB; rfl
theorem bit5AtHl : Statement .bit5AtHl := by show (2 : Nat) = instrLength 0xCB; rfl
theorem bit5A : Statement .bit5A := by show (2 : Nat) = instrLength 0xCB; rfl
theorem bit6B : Statement .bit6B := by show (2 : Nat) = instrLength 0xCB; rfl
theorem bit6C : Statement .bit6C := by show (2 : Nat) = instrLength 0xCB; rfl
theorem bit6D : Statement .bit6D := by show (2 : Nat) = instrLength 0xCB; rfl
theorem bit6E : Statement .bit6E := by show (2 : Nat) = instrLength 0xCB; rfl
theorem bit6H : Statement .bit6H := by show (2 : Nat) = instrLength 0xCB; rfl
theorem bit6L : Statement .bit6L := by show (2 : Nat) = instrLength 0xCB; rfl
theorem bit6AtHl : Statement .bit6AtHl := by show (2 : Nat) = instrLength 0xCB; rfl
theorem bit6A : Statement .bit6A := by show (2 : Nat) = instrLength 0xCB; rfl
theorem bit7B : Statement .bit7B := by show (2 : Nat) = instrLength 0xCB; rfl
theorem bit7C : Statement .bit7C := by show (2 : Nat) = instrLength 0xCB; rfl
theorem bit7D : Statement .bit7D := by show (2 : Nat) = instrLength 0xCB; rfl
theorem bit7E : Statement .bit7E := by show (2 : Nat) = instrLength 0xCB; rfl
theorem bit7H : Statement .bit7H := by show (2 : Nat) = instrLength 0xCB; rfl
theorem bit7L : Statement .bit7L := by show (2 : Nat) = instrLength 0xCB; rfl
theorem bit7AtHl : Statement .bit7AtHl := by show (2 : Nat) = instrLength 0xCB; rfl
theorem bit7A : Statement .bit7A := by show (2 : Nat) = instrLength 0xCB; rfl
theorem res0B : Statement .res0B := by show (2 : Nat) = instrLength 0xCB; rfl
theorem res0C : Statement .res0C := by show (2 : Nat) = instrLength 0xCB; rfl
theorem res0D : Statement .res0D := by show (2 : Nat) = instrLength 0xCB; rfl
theorem res0E : Statement .res0E := by show (2 : Nat) = instrLength 0xCB; rfl
theorem res0H : Statement .res0H := by show (2 : Nat) = instrLength 0xCB; rfl
theorem res0L : Statement .res0L := by show (2 : Nat) = instrLength 0xCB; rfl
theorem res0AtHl : Statement .res0AtHl := by show (2 : Nat) = instrLength 0xCB; rfl
theorem res0A : Statement .res0A := by show (2 : Nat) = instrLength 0xCB; rfl
theorem res1B : Statement .res1B := by show (2 : Nat) = instrLength 0xCB; rfl
theorem res1C : Statement .res1C := by show (2 : Nat) = instrLength 0xCB; rfl
theorem res1D : Statement .res1D := by show (2 : Nat) = instrLength 0xCB; rfl
theorem res1E : Statement .res1E := by show (2 : Nat) = instrLength 0xCB; rfl
theorem res1H : Statement .res1H := by show (2 : Nat) = instrLength 0xCB; rfl
theorem res1L : Statement .res1L := by show (2 : Nat) = instrLength 0xCB; rfl
theorem res1AtHl : Statement .res1AtHl := by show (2 : Nat) = instrLength 0xCB; rfl
theorem res1A : Statement .res1A := by show (2 : Nat) = instrLength 0xCB; rfl
theorem res2B : Statement .res2B := by show (2 : Nat) = instrLength 0xCB; rfl
theorem res2C : Statement .res2C := by show (2 : Nat) = instrLength 0xCB; rfl
theorem res2D : Statement .res2D := by show (2 : Nat) = instrLength 0xCB; rfl
theorem res2E : Statement .res2E := by show (2 : Nat) = instrLength 0xCB; rfl
theorem res2H : Statement .res2H := by show (2 : Nat) = instrLength 0xCB; rfl
theorem res2L : Statement .res2L := by show (2 : Nat) = instrLength 0xCB; rfl
theorem res2AtHl : Statement .res2AtHl := by show (2 : Nat) = instrLength 0xCB; rfl
theorem res2A : Statement .res2A := by show (2 : Nat) = instrLength 0xCB; rfl
theorem res3B : Statement .res3B := by show (2 : Nat) = instrLength 0xCB; rfl
theorem res3C : Statement .res3C := by show (2 : Nat) = instrLength 0xCB; rfl
theorem res3D : Statement .res3D := by show (2 : Nat) = instrLength 0xCB; rfl
theorem res3E : Statement .res3E := by show (2 : Nat) = instrLength 0xCB; rfl
theorem res3H : Statement .res3H := by show (2 : Nat) = instrLength 0xCB; rfl
theorem res3L : Statement .res3L := by show (2 : Nat) = instrLength 0xCB; rfl
theorem res3AtHl : Statement .res3AtHl := by show (2 : Nat) = instrLength 0xCB; rfl
theorem res3A : Statement .res3A := by show (2 : Nat) = instrLength 0xCB; rfl
theorem res4B : Statement .res4B := by show (2 : Nat) = instrLength 0xCB; rfl
theorem res4C : Statement .res4C := by show (2 : Nat) = instrLength 0xCB; rfl
theorem res4D : Statement .res4D := by show (2 : Nat) = instrLength 0xCB; rfl
theorem res4E : Statement .res4E := by show (2 : Nat) = instrLength 0xCB; rfl
theorem res4H : Statement .res4H := by show (2 : Nat) = instrLength 0xCB; rfl
theorem res4L : Statement .res4L := by show (2 : Nat) = instrLength 0xCB; rfl
theorem res4AtHl : Statement .res4AtHl := by show (2 : Nat) = instrLength 0xCB; rfl
theorem res4A : Statement .res4A := by show (2 : Nat) = instrLength 0xCB; rfl
theorem res5B : Statement .res5B := by show (2 : Nat) = instrLength 0xCB; rfl
theorem res5C : Statement .res5C := by show (2 : Nat) = instrLength 0xCB; rfl
theorem res5D : Statement .res5D := by show (2 : Nat) = instrLength 0xCB; rfl
theorem res5E : Statement .res5E := by show (2 : Nat) = instrLength 0xCB; rfl
theorem res5H : Statement .res5H := by show (2 : Nat) = instrLength 0xCB; rfl
theorem res5L : Statement .res5L := by show (2 : Nat) = instrLength 0xCB; rfl
theorem res5AtHl : Statement .res5AtHl := by show (2 : Nat) = instrLength 0xCB; rfl
theorem res5A : Statement .res5A := by show (2 : Nat) = instrLength 0xCB; rfl
theorem res6B : Statement .res6B := by show (2 : Nat) = instrLength 0xCB; rfl
theorem res6C : Statement .res6C := by show (2 : Nat) = instrLength 0xCB; rfl
theorem res6D : Statement .res6D := by show (2 : Nat) = instrLength 0xCB; rfl
theorem res6E : Statement .res6E := by show (2 : Nat) = instrLength 0xCB; rfl
theorem res6H : Statement .res6H := by show (2 : Nat) = instrLength 0xCB; rfl
theorem res6L : Statement .res6L := by show (2 : Nat) = instrLength 0xCB; rfl
theorem res6AtHl : Statement .res6AtHl := by show (2 : Nat) = instrLength 0xCB; rfl
theorem res6A : Statement .res6A := by show (2 : Nat) = instrLength 0xCB; rfl
theorem res7B : Statement .res7B := by show (2 : Nat) = instrLength 0xCB; rfl
theorem res7C : Statement .res7C := by show (2 : Nat) = instrLength 0xCB; rfl
theorem res7D : Statement .res7D := by show (2 : Nat) = instrLength 0xCB; rfl
theorem res7E : Statement .res7E := by show (2 : Nat) = instrLength 0xCB; rfl
theorem res7H : Statement .res7H := by show (2 : Nat) = instrLength 0xCB; rfl
theorem res7L : Statement .res7L := by show (2 : Nat) = instrLength 0xCB; rfl
theorem res7AtHl : Statement .res7AtHl := by show (2 : Nat) = instrLength 0xCB; rfl
theorem res7A : Statement .res7A := by show (2 : Nat) = instrLength 0xCB; rfl
theorem set0B : Statement .set0B := by show (2 : Nat) = instrLength 0xCB; rfl
theorem set0C : Statement .set0C := by show (2 : Nat) = instrLength 0xCB; rfl
theorem set0D : Statement .set0D := by show (2 : Nat) = instrLength 0xCB; rfl
theorem set0E : Statement .set0E := by show (2 : Nat) = instrLength 0xCB; rfl
theorem set0H : Statement .set0H := by show (2 : Nat) = instrLength 0xCB; rfl
theorem set0L : Statement .set0L := by show (2 : Nat) = instrLength 0xCB; rfl
theorem set0AtHl : Statement .set0AtHl := by show (2 : Nat) = instrLength 0xCB; rfl
theorem set0A : Statement .set0A := by show (2 : Nat) = instrLength 0xCB; rfl
theorem set1B : Statement .set1B := by show (2 : Nat) = instrLength 0xCB; rfl
theorem set1C : Statement .set1C := by show (2 : Nat) = instrLength 0xCB; rfl
theorem set1D : Statement .set1D := by show (2 : Nat) = instrLength 0xCB; rfl
theorem set1E : Statement .set1E := by show (2 : Nat) = instrLength 0xCB; rfl
theorem set1H : Statement .set1H := by show (2 : Nat) = instrLength 0xCB; rfl
theorem set1L : Statement .set1L := by show (2 : Nat) = instrLength 0xCB; rfl
theorem set1AtHl : Statement .set1AtHl := by show (2 : Nat) = instrLength 0xCB; rfl
theorem set1A : Statement .set1A := by show (2 : Nat) = instrLength 0xCB; rfl
theorem set2B : Statement .set2B := by show (2 : Nat) = instrLength 0xCB; rfl
theorem set2C : Statement .set2C := by show (2 : Nat) = instrLength 0xCB; rfl
theorem set2D : Statement .set2D := by show (2 : Nat) = instrLength 0xCB; rfl
theorem set2E : Statement .set2E := by show (2 : Nat) = instrLength 0xCB; rfl
theorem set2H : Statement .set2H := by show (2 : Nat) = instrLength 0xCB; rfl
theorem set2L : Statement .set2L := by show (2 : Nat) = instrLength 0xCB; rfl
theorem set2AtHl : Statement .set2AtHl := by show (2 : Nat) = instrLength 0xCB; rfl
theorem set2A : Statement .set2A := by show (2 : Nat) = instrLength 0xCB; rfl
theorem set3B : Statement .set3B := by show (2 : Nat) = instrLength 0xCB; rfl
theorem set3C : Statement .set3C := by show (2 : Nat) = instrLength 0xCB; rfl
theorem set3D : Statement .set3D := by show (2 : Nat) = instrLength 0xCB; rfl
theorem set3E : Statement .set3E := by show (2 : Nat) = instrLength 0xCB; rfl
theorem set3H : Statement .set3H := by show (2 : Nat) = instrLength 0xCB; rfl
theorem set3L : Statement .set3L := by show (2 : Nat) = instrLength 0xCB; rfl
theorem set3AtHl : Statement .set3AtHl := by show (2 : Nat) = instrLength 0xCB; rfl
theorem set3A : Statement .set3A := by show (2 : Nat) = instrLength 0xCB; rfl
theorem set4B : Statement .set4B := by show (2 : Nat) = instrLength 0xCB; rfl
theorem set4C : Statement .set4C := by show (2 : Nat) = instrLength 0xCB; rfl
theorem set4D : Statement .set4D := by show (2 : Nat) = instrLength 0xCB; rfl
theorem set4E : Statement .set4E := by show (2 : Nat) = instrLength 0xCB; rfl
theorem set4H : Statement .set4H := by show (2 : Nat) = instrLength 0xCB; rfl
theorem set4L : Statement .set4L := by show (2 : Nat) = instrLength 0xCB; rfl
theorem set4AtHl : Statement .set4AtHl := by show (2 : Nat) = instrLength 0xCB; rfl
theorem set4A : Statement .set4A := by show (2 : Nat) = instrLength 0xCB; rfl
theorem set5B : Statement .set5B := by show (2 : Nat) = instrLength 0xCB; rfl
theorem set5C : Statement .set5C := by show (2 : Nat) = instrLength 0xCB; rfl
theorem set5D : Statement .set5D := by show (2 : Nat) = instrLength 0xCB; rfl
theorem set5E : Statement .set5E := by show (2 : Nat) = instrLength 0xCB; rfl
theorem set5H : Statement .set5H := by show (2 : Nat) = instrLength 0xCB; rfl
theorem set5L : Statement .set5L := by show (2 : Nat) = instrLength 0xCB; rfl
theorem set5AtHl : Statement .set5AtHl := by show (2 : Nat) = instrLength 0xCB; rfl
theorem set5A : Statement .set5A := by show (2 : Nat) = instrLength 0xCB; rfl
theorem set6B : Statement .set6B := by show (2 : Nat) = instrLength 0xCB; rfl
theorem set6C : Statement .set6C := by show (2 : Nat) = instrLength 0xCB; rfl
theorem set6D : Statement .set6D := by show (2 : Nat) = instrLength 0xCB; rfl
theorem set6E : Statement .set6E := by show (2 : Nat) = instrLength 0xCB; rfl
theorem set6H : Statement .set6H := by show (2 : Nat) = instrLength 0xCB; rfl
theorem set6L : Statement .set6L := by show (2 : Nat) = instrLength 0xCB; rfl
theorem set6AtHl : Statement .set6AtHl := by show (2 : Nat) = instrLength 0xCB; rfl
theorem set6A : Statement .set6A := by show (2 : Nat) = instrLength 0xCB; rfl
theorem set7B : Statement .set7B := by show (2 : Nat) = instrLength 0xCB; rfl
theorem set7C : Statement .set7C := by show (2 : Nat) = instrLength 0xCB; rfl
theorem set7D : Statement .set7D := by show (2 : Nat) = instrLength 0xCB; rfl
theorem set7E : Statement .set7E := by show (2 : Nat) = instrLength 0xCB; rfl
theorem set7H : Statement .set7H := by show (2 : Nat) = instrLength 0xCB; rfl
theorem set7L : Statement .set7L := by show (2 : Nat) = instrLength 0xCB; rfl
theorem set7AtHl : Statement .set7AtHl := by show (2 : Nat) = instrLength 0xCB; rfl
theorem set7A : Statement .set7A := by show (2 : Nat) = instrLength 0xCB; rfl

end Sys2Proof.Laws.EncodeLength
end

