-- ==== Sys2Proof/Tests/Slice0.lean ====
section
/-! SUPPORT. Tests: the well-formedness smoke, a word of every row of the opcode table, vectors of spec/95_test_vectors.md one step each, and a witness for the hypotheses of every statement. -/

namespace Sys2Proof.Tests

set_option Elab.async false

open Sys2Proof Sys2Proof.Machine Sys2Proof.Claims

/-! ## WellFormed: an ill-formed term for each check (spec/30_encoding.md R202: e8 is -128 to 127) -/

theorem test_wellFormed_jrE8 :
    Instr.wellFormed (.jrE8 128) = false ∧ Instr.wellFormed (.jrE8 (-129)) = false ∧
      Instr.wellFormed (.jrE8 127) = true ∧ Instr.wellFormed (.jrE8 (-128)) = true := by decide

theorem test_wellFormed_jrNzE8 :
    Instr.wellFormed (.jrNzE8 128) = false ∧ Instr.wellFormed (.jrNzE8 (-129)) = false ∧
      Instr.wellFormed (.jrNzE8 127) = true ∧ Instr.wellFormed (.jrNzE8 (-128)) = true := by decide

theorem test_wellFormed_jrZE8 :
    Instr.wellFormed (.jrZE8 128) = false ∧ Instr.wellFormed (.jrZE8 (-129)) = false ∧
      Instr.wellFormed (.jrZE8 127) = true ∧ Instr.wellFormed (.jrZE8 (-128)) = true := by decide

theorem test_wellFormed_jrNcE8 :
    Instr.wellFormed (.jrNcE8 128) = false ∧ Instr.wellFormed (.jrNcE8 (-129)) = false ∧
      Instr.wellFormed (.jrNcE8 127) = true ∧ Instr.wellFormed (.jrNcE8 (-128)) = true := by decide

theorem test_wellFormed_jrCE8 :
    Instr.wellFormed (.jrCE8 128) = false ∧ Instr.wellFormed (.jrCE8 (-129)) = false ∧
      Instr.wellFormed (.jrCE8 127) = true ∧ Instr.wellFormed (.jrCE8 (-128)) = true := by decide

theorem test_wellFormed_addSpE8 :
    Instr.wellFormed (.addSpE8 128) = false ∧ Instr.wellFormed (.addSpE8 (-129)) = false ∧
      Instr.wellFormed (.addSpE8 127) = true ∧ Instr.wellFormed (.addSpE8 (-128)) = true := by decide

theorem test_wellFormed_ldHlSpE8 :
    Instr.wellFormed (.ldHlSpE8 128) = false ∧ Instr.wellFormed (.ldHlSpE8 (-129)) = false ∧
      Instr.wellFormed (.ldHlSpE8 127) = true ∧ Instr.wellFormed (.ldHlSpE8 (-128)) = true := by decide

/-! ## Decoding and encoding: the word of every row, written from the row's `match` in spec/opcode_table.json,
with n8 = a8 = 0x5A, n16 = a16 = 0x1234 (low byte first, R202) and e8 = -2 (0xFE) -/

/-- The bytes decode to the instruction, with nothing left, and it encodes to them. -/
def rowOk (p : List Byte × Instr) : Bool :=
  encode p.2 == p.1 && (match decode p.1 with | .ok (i, rest) => i == p.2 && rest.isEmpty | .error _ => false)

/-- Every row of a table, written in pieces. -/
def rowsOk (l : List (List (List Byte × Instr))) : Bool := l.all (fun piece => piece.all rowOk)

theorem test_decode_0x :
    rowsOk [
      [([0x00], .nop), ([0x01, 0x34, 0x12], .ldBcN16 0x1234), ([0x02], .ldAtBcA), ([0x03], .incBc)],
      [([0x04], .incB), ([0x05], .decB), ([0x06, 0x5A], .ldBN8 0x5A), ([0x07], .rlca)],
      [([0x08, 0x34, 0x12], .ldAtA16Sp 0x1234), ([0x09], .addHlBc), ([0x0A], .ldAAtBc), ([0x0B], .decBc)],
      [([0x0C], .incC), ([0x0D], .decC), ([0x0E, 0x5A], .ldCN8 0x5A), ([0x0F], .rrca)]] = true := by decide +kernel

theorem test_decode_1x :
    rowsOk [
      [([0x10, 0x5A], .stop 0x5A), ([0x11, 0x34, 0x12], .ldDeN16 0x1234), ([0x12], .ldAtDeA), ([0x13], .incDe)],
      [([0x14], .incD), ([0x15], .decD), ([0x16, 0x5A], .ldDN8 0x5A), ([0x17], .rla)],
      [([0x18, 0xFE], .jrE8 (-2)), ([0x19], .addHlDe), ([0x1A], .ldAAtDe), ([0x1B], .decDe)],
      [([0x1C], .incE), ([0x1D], .decE), ([0x1E, 0x5A], .ldEN8 0x5A), ([0x1F], .rra)]] = true := by decide +kernel

theorem test_decode_2x :
    rowsOk [
      [([0x20, 0xFE], .jrNzE8 (-2)), ([0x21, 0x34, 0x12], .ldHlN16 0x1234), ([0x22], .ldAtHlIncA), ([0x23], .incHl)],
      [([0x24], .incH), ([0x25], .decH), ([0x26, 0x5A], .ldHN8 0x5A), ([0x27], .daa)],
      [([0x28, 0xFE], .jrZE8 (-2)), ([0x29], .addHlHl), ([0x2A], .ldAAtHlInc), ([0x2B], .decHl)],
      [([0x2C], .incL), ([0x2D], .decL), ([0x2E, 0x5A], .ldLN8 0x5A), ([0x2F], .cpl)]] = true := by decide +kernel

theorem test_decode_3x :
    rowsOk [
      [([0x30, 0xFE], .jrNcE8 (-2)), ([0x31, 0x34, 0x12], .ldSpN16 0x1234), ([0x32], .ldAtHlDecA), ([0x33], .incSp)],
      [([0x34], .incAtHl), ([0x35], .decAtHl), ([0x36, 0x5A], .ldAtHlN8 0x5A), ([0x37], .scf)],
      [([0x38, 0xFE], .jrCE8 (-2)), ([0x39], .addHlSp), ([0x3A], .ldAAtHlDec), ([0x3B], .decSp)],
      [([0x3C], .incA), ([0x3D], .decA), ([0x3E, 0x5A], .ldAN8 0x5A), ([0x3F], .ccf)]] = true := by decide +kernel

theorem test_decode_4x :
    rowsOk [
      [([0x40], .ldBB), ([0x41], .ldBC), ([0x42], .ldBD), ([0x43], .ldBE)],
      [([0x44], .ldBH), ([0x45], .ldBL), ([0x46], .ldBAtHl), ([0x47], .ldBA)],
      [([0x48], .ldCB), ([0x49], .ldCC), ([0x4A], .ldCD), ([0x4B], .ldCE)],
      [([0x4C], .ldCH), ([0x4D], .ldCL), ([0x4E], .ldCAtHl), ([0x4F], .ldCA)]] = true := by decide +kernel

theorem test_decode_5x :
    rowsOk [
      [([0x50], .ldDB), ([0x51], .ldDC), ([0x52], .ldDD), ([0x53], .ldDE)],
      [([0x54], .ldDH), ([0x55], .ldDL), ([0x56], .ldDAtHl), ([0x57], .ldDA)],
      [([0x58], .ldEB), ([0x59], .ldEC), ([0x5A], .ldED), ([0x5B], .ldEE)],
      [([0x5C], .ldEH), ([0x5D], .ldEL), ([0x5E], .ldEAtHl), ([0x5F], .ldEA)]] = true := by decide +kernel

theorem test_decode_6x :
    rowsOk [
      [([0x60], .ldHB), ([0x61], .ldHC), ([0x62], .ldHD), ([0x63], .ldHE)],
      [([0x64], .ldHH), ([0x65], .ldHL), ([0x66], .ldHAtHl), ([0x67], .ldHA)],
      [([0x68], .ldLB), ([0x69], .ldLC), ([0x6A], .ldLD), ([0x6B], .ldLE)],
      [([0x6C], .ldLH), ([0x6D], .ldLL), ([0x6E], .ldLAtHl), ([0x6F], .ldLA)]] = true := by decide +kernel

theorem test_decode_7x :
    rowsOk [
      [([0x70], .ldAtHlB), ([0x71], .ldAtHlC), ([0x72], .ldAtHlD), ([0x73], .ldAtHlE)],
      [([0x74], .ldAtHlH), ([0x75], .ldAtHlL), ([0x76], .halt), ([0x77], .ldAtHlA)],
      [([0x78], .ldAB), ([0x79], .ldAC), ([0x7A], .ldAD), ([0x7B], .ldAE)],
      [([0x7C], .ldAH), ([0x7D], .ldAL), ([0x7E], .ldAAtHl), ([0x7F], .ldAA)]] = true := by decide +kernel

theorem test_decode_8x :
    rowsOk [
      [([0x80], .addAB), ([0x81], .addAC), ([0x82], .addAD), ([0x83], .addAE)],
      [([0x84], .addAH), ([0x85], .addAL), ([0x86], .addAAtHl), ([0x87], .addAA)],
      [([0x88], .adcAB), ([0x89], .adcAC), ([0x8A], .adcAD), ([0x8B], .adcAE)],
      [([0x8C], .adcAH), ([0x8D], .adcAL), ([0x8E], .adcAAtHl), ([0x8F], .adcAA)]] = true := by decide +kernel

theorem test_decode_9x :
    rowsOk [
      [([0x90], .subAB), ([0x91], .subAC), ([0x92], .subAD), ([0x93], .subAE)],
      [([0x94], .subAH), ([0x95], .subAL), ([0x96], .subAAtHl), ([0x97], .subAA)],
      [([0x98], .sbcAB), ([0x99], .sbcAC), ([0x9A], .sbcAD), ([0x9B], .sbcAE)],
      [([0x9C], .sbcAH), ([0x9D], .sbcAL), ([0x9E], .sbcAAtHl), ([0x9F], .sbcAA)]] = true := by decide +kernel

theorem test_decode_Ax :
    rowsOk [
      [([0xA0], .andAB), ([0xA1], .andAC), ([0xA2], .andAD), ([0xA3], .andAE)],
      [([0xA4], .andAH), ([0xA5], .andAL), ([0xA6], .andAAtHl), ([0xA7], .andAA)],
      [([0xA8], .xorAB), ([0xA9], .xorAC), ([0xAA], .xorAD), ([0xAB], .xorAE)],
      [([0xAC], .xorAH), ([0xAD], .xorAL), ([0xAE], .xorAAtHl), ([0xAF], .xorAA)]] = true := by decide +kernel

theorem test_decode_Bx :
    rowsOk [
      [([0xB0], .orAB), ([0xB1], .orAC), ([0xB2], .orAD), ([0xB3], .orAE)],
      [([0xB4], .orAH), ([0xB5], .orAL), ([0xB6], .orAAtHl), ([0xB7], .orAA)],
      [([0xB8], .cpAB), ([0xB9], .cpAC), ([0xBA], .cpAD), ([0xBB], .cpAE)],
      [([0xBC], .cpAH), ([0xBD], .cpAL), ([0xBE], .cpAAtHl), ([0xBF], .cpAA)]] = true := by decide +kernel

theorem test_decode_Cx :
    rowsOk [
      [([0xC0], .retNz), ([0xC1], .popBc), ([0xC2, 0x34, 0x12], .jpNzA16 0x1234), ([0xC3, 0x34, 0x12], .jpA16 0x1234)],
      [([0xC4, 0x34, 0x12], .callNzA16 0x1234), ([0xC5], .pushBc), ([0xC6, 0x5A], .addAN8 0x5A), ([0xC7], .rst00)],
      [([0xC8], .retZ), ([0xC9], .ret), ([0xCA, 0x34, 0x12], .jpZA16 0x1234), ([0xCC, 0x34, 0x12], .callZA16 0x1234)],
      [([0xCD, 0x34, 0x12], .callA16 0x1234), ([0xCE, 0x5A], .adcAN8 0x5A), ([0xCF], .rst08)]] = true := by decide +kernel

theorem test_decode_Dx :
    rowsOk [
      [([0xD0], .retNc), ([0xD1], .popDe), ([0xD2, 0x34, 0x12], .jpNcA16 0x1234), ([0xD3], .illegalD3)],
      [([0xD4, 0x34, 0x12], .callNcA16 0x1234), ([0xD5], .pushDe), ([0xD6, 0x5A], .subAN8 0x5A), ([0xD7], .rst10)],
      [([0xD8], .retC), ([0xD9], .reti), ([0xDA, 0x34, 0x12], .jpCA16 0x1234), ([0xDB], .illegalDB)],
      [([0xDC, 0x34, 0x12], .callCA16 0x1234), ([0xDD], .illegalDD), ([0xDE, 0x5A], .sbcAN8 0x5A), ([0xDF], .rst18)]] = true := by decide +kernel

theorem test_decode_Ex :
    rowsOk [
      [([0xE0, 0x5A], .ldhAtA8A 0x5A), ([0xE1], .popHl), ([0xE2], .ldAtCA), ([0xE3], .illegalE3)],
      [([0xE4], .illegalE4), ([0xE5], .pushHl), ([0xE6, 0x5A], .andAN8 0x5A), ([0xE7], .rst20)],
      [([0xE8, 0xFE], .addSpE8 (-2)), ([0xE9], .jpHl), ([0xEA, 0x34, 0x12], .ldAtA16A 0x1234), ([0xEB], .illegalEB)],
      [([0xEC], .illegalEC), ([0xED], .illegalED), ([0xEE, 0x5A], .xorAN8 0x5A), ([0xEF], .rst28)]] = true := by decide +kernel

theorem test_decode_Fx :
    rowsOk [
      [([0xF0, 0x5A], .ldhAAtA8 0x5A), ([0xF1], .popAf), ([0xF2], .ldAAtC), ([0xF3], .di)],
      [([0xF4], .illegalF4), ([0xF5], .pushAf), ([0xF6, 0x5A], .orAN8 0x5A), ([0xF7], .rst30)],
      [([0xF8, 0xFE], .ldHlSpE8 (-2)), ([0xF9], .ldSpHl), ([0xFA, 0x34, 0x12], .ldAAtA16 0x1234), ([0xFB], .ei)],
      [([0xFC], .illegalFC), ([0xFD], .illegalFD), ([0xFE, 0x5A], .cpAN8 0x5A), ([0xFF], .rst38)]] = true := by decide +kernel

theorem test_decode_Cb0x :
    rowsOk [
      [([0xCB, 0x00], .rlcB), ([0xCB, 0x01], .rlcC), ([0xCB, 0x02], .rlcD), ([0xCB, 0x03], .rlcE)],
      [([0xCB, 0x04], .rlcH), ([0xCB, 0x05], .rlcL), ([0xCB, 0x06], .rlcAtHl), ([0xCB, 0x07], .rlcA)],
      [([0xCB, 0x08], .rrcB), ([0xCB, 0x09], .rrcC), ([0xCB, 0x0A], .rrcD), ([0xCB, 0x0B], .rrcE)],
      [([0xCB, 0x0C], .rrcH), ([0xCB, 0x0D], .rrcL), ([0xCB, 0x0E], .rrcAtHl), ([0xCB, 0x0F], .rrcA)]] = true := by decide +kernel

theorem test_decode_Cb1x :
    rowsOk [
      [([0xCB, 0x10], .rlB), ([0xCB, 0x11], .rlC), ([0xCB, 0x12], .rlD), ([0xCB, 0x13], .rlE)],
      [([0xCB, 0x14], .rlH), ([0xCB, 0x15], .rlL), ([0xCB, 0x16], .rlAtHl), ([0xCB, 0x17], .rlA)],
      [([0xCB, 0x18], .rrB), ([0xCB, 0x19], .rrC), ([0xCB, 0x1A], .rrD), ([0xCB, 0x1B], .rrE)],
      [([0xCB, 0x1C], .rrH), ([0xCB, 0x1D], .rrL), ([0xCB, 0x1E], .rrAtHl), ([0xCB, 0x1F], .rrA)]] = true := by decide +kernel

theorem test_decode_Cb2x :
    rowsOk [
      [([0xCB, 0x20], .slaB), ([0xCB, 0x21], .slaC), ([0xCB, 0x22], .slaD), ([0xCB, 0x23], .slaE)],
      [([0xCB, 0x24], .slaH), ([0xCB, 0x25], .slaL), ([0xCB, 0x26], .slaAtHl), ([0xCB, 0x27], .slaA)],
      [([0xCB, 0x28], .sraB), ([0xCB, 0x29], .sraC), ([0xCB, 0x2A], .sraD), ([0xCB, 0x2B], .sraE)],
      [([0xCB, 0x2C], .sraH), ([0xCB, 0x2D], .sraL), ([0xCB, 0x2E], .sraAtHl), ([0xCB, 0x2F], .sraA)]] = true := by decide +kernel

theorem test_decode_Cb3x :
    rowsOk [
      [([0xCB, 0x30], .swapB), ([0xCB, 0x31], .swapC), ([0xCB, 0x32], .swapD), ([0xCB, 0x33], .swapE)],
      [([0xCB, 0x34], .swapH), ([0xCB, 0x35], .swapL), ([0xCB, 0x36], .swapAtHl), ([0xCB, 0x37], .swapA)],
      [([0xCB, 0x38], .srlB), ([0xCB, 0x39], .srlC), ([0xCB, 0x3A], .srlD), ([0xCB, 0x3B], .srlE)],
      [([0xCB, 0x3C], .srlH), ([0xCB, 0x3D], .srlL), ([0xCB, 0x3E], .srlAtHl), ([0xCB, 0x3F], .srlA)]] = true := by decide +kernel

theorem test_decode_Cb4x :
    rowsOk [
      [([0xCB, 0x40], .bit0B), ([0xCB, 0x41], .bit0C), ([0xCB, 0x42], .bit0D), ([0xCB, 0x43], .bit0E)],
      [([0xCB, 0x44], .bit0H), ([0xCB, 0x45], .bit0L), ([0xCB, 0x46], .bit0AtHl), ([0xCB, 0x47], .bit0A)],
      [([0xCB, 0x48], .bit1B), ([0xCB, 0x49], .bit1C), ([0xCB, 0x4A], .bit1D), ([0xCB, 0x4B], .bit1E)],
      [([0xCB, 0x4C], .bit1H), ([0xCB, 0x4D], .bit1L), ([0xCB, 0x4E], .bit1AtHl), ([0xCB, 0x4F], .bit1A)]] = true := by decide +kernel

theorem test_decode_Cb5x :
    rowsOk [
      [([0xCB, 0x50], .bit2B), ([0xCB, 0x51], .bit2C), ([0xCB, 0x52], .bit2D), ([0xCB, 0x53], .bit2E)],
      [([0xCB, 0x54], .bit2H), ([0xCB, 0x55], .bit2L), ([0xCB, 0x56], .bit2AtHl), ([0xCB, 0x57], .bit2A)],
      [([0xCB, 0x58], .bit3B), ([0xCB, 0x59], .bit3C), ([0xCB, 0x5A], .bit3D), ([0xCB, 0x5B], .bit3E)],
      [([0xCB, 0x5C], .bit3H), ([0xCB, 0x5D], .bit3L), ([0xCB, 0x5E], .bit3AtHl), ([0xCB, 0x5F], .bit3A)]] = true := by decide +kernel

theorem test_decode_Cb6x :
    rowsOk [
      [([0xCB, 0x60], .bit4B), ([0xCB, 0x61], .bit4C), ([0xCB, 0x62], .bit4D), ([0xCB, 0x63], .bit4E)],
      [([0xCB, 0x64], .bit4H), ([0xCB, 0x65], .bit4L), ([0xCB, 0x66], .bit4AtHl), ([0xCB, 0x67], .bit4A)],
      [([0xCB, 0x68], .bit5B), ([0xCB, 0x69], .bit5C), ([0xCB, 0x6A], .bit5D), ([0xCB, 0x6B], .bit5E)],
      [([0xCB, 0x6C], .bit5H), ([0xCB, 0x6D], .bit5L), ([0xCB, 0x6E], .bit5AtHl), ([0xCB, 0x6F], .bit5A)]] = true := by decide +kernel

theorem test_decode_Cb7x :
    rowsOk [
      [([0xCB, 0x70], .bit6B), ([0xCB, 0x71], .bit6C), ([0xCB, 0x72], .bit6D), ([0xCB, 0x73], .bit6E)],
      [([0xCB, 0x74], .bit6H), ([0xCB, 0x75], .bit6L), ([0xCB, 0x76], .bit6AtHl), ([0xCB, 0x77], .bit6A)],
      [([0xCB, 0x78], .bit7B), ([0xCB, 0x79], .bit7C), ([0xCB, 0x7A], .bit7D), ([0xCB, 0x7B], .bit7E)],
      [([0xCB, 0x7C], .bit7H), ([0xCB, 0x7D], .bit7L), ([0xCB, 0x7E], .bit7AtHl), ([0xCB, 0x7F], .bit7A)]] = true := by decide +kernel

theorem test_decode_Cb8x :
    rowsOk [
      [([0xCB, 0x80], .res0B), ([0xCB, 0x81], .res0C), ([0xCB, 0x82], .res0D), ([0xCB, 0x83], .res0E)],
      [([0xCB, 0x84], .res0H), ([0xCB, 0x85], .res0L), ([0xCB, 0x86], .res0AtHl), ([0xCB, 0x87], .res0A)],
      [([0xCB, 0x88], .res1B), ([0xCB, 0x89], .res1C), ([0xCB, 0x8A], .res1D), ([0xCB, 0x8B], .res1E)],
      [([0xCB, 0x8C], .res1H), ([0xCB, 0x8D], .res1L), ([0xCB, 0x8E], .res1AtHl), ([0xCB, 0x8F], .res1A)]] = true := by decide +kernel

theorem test_decode_Cb9x :
    rowsOk [
      [([0xCB, 0x90], .res2B), ([0xCB, 0x91], .res2C), ([0xCB, 0x92], .res2D), ([0xCB, 0x93], .res2E)],
      [([0xCB, 0x94], .res2H), ([0xCB, 0x95], .res2L), ([0xCB, 0x96], .res2AtHl), ([0xCB, 0x97], .res2A)],
      [([0xCB, 0x98], .res3B), ([0xCB, 0x99], .res3C), ([0xCB, 0x9A], .res3D), ([0xCB, 0x9B], .res3E)],
      [([0xCB, 0x9C], .res3H), ([0xCB, 0x9D], .res3L), ([0xCB, 0x9E], .res3AtHl), ([0xCB, 0x9F], .res3A)]] = true := by decide +kernel

theorem test_decode_CbAx :
    rowsOk [
      [([0xCB, 0xA0], .res4B), ([0xCB, 0xA1], .res4C), ([0xCB, 0xA2], .res4D), ([0xCB, 0xA3], .res4E)],
      [([0xCB, 0xA4], .res4H), ([0xCB, 0xA5], .res4L), ([0xCB, 0xA6], .res4AtHl), ([0xCB, 0xA7], .res4A)],
      [([0xCB, 0xA8], .res5B), ([0xCB, 0xA9], .res5C), ([0xCB, 0xAA], .res5D), ([0xCB, 0xAB], .res5E)],
      [([0xCB, 0xAC], .res5H), ([0xCB, 0xAD], .res5L), ([0xCB, 0xAE], .res5AtHl), ([0xCB, 0xAF], .res5A)]] = true := by decide +kernel

theorem test_decode_CbBx :
    rowsOk [
      [([0xCB, 0xB0], .res6B), ([0xCB, 0xB1], .res6C), ([0xCB, 0xB2], .res6D), ([0xCB, 0xB3], .res6E)],
      [([0xCB, 0xB4], .res6H), ([0xCB, 0xB5], .res6L), ([0xCB, 0xB6], .res6AtHl), ([0xCB, 0xB7], .res6A)],
      [([0xCB, 0xB8], .res7B), ([0xCB, 0xB9], .res7C), ([0xCB, 0xBA], .res7D), ([0xCB, 0xBB], .res7E)],
      [([0xCB, 0xBC], .res7H), ([0xCB, 0xBD], .res7L), ([0xCB, 0xBE], .res7AtHl), ([0xCB, 0xBF], .res7A)]] = true := by decide +kernel

theorem test_decode_CbCx :
    rowsOk [
      [([0xCB, 0xC0], .set0B), ([0xCB, 0xC1], .set0C), ([0xCB, 0xC2], .set0D), ([0xCB, 0xC3], .set0E)],
      [([0xCB, 0xC4], .set0H), ([0xCB, 0xC5], .set0L), ([0xCB, 0xC6], .set0AtHl), ([0xCB, 0xC7], .set0A)],
      [([0xCB, 0xC8], .set1B), ([0xCB, 0xC9], .set1C), ([0xCB, 0xCA], .set1D), ([0xCB, 0xCB], .set1E)],
      [([0xCB, 0xCC], .set1H), ([0xCB, 0xCD], .set1L), ([0xCB, 0xCE], .set1AtHl), ([0xCB, 0xCF], .set1A)]] = true := by decide +kernel

theorem test_decode_CbDx :
    rowsOk [
      [([0xCB, 0xD0], .set2B), ([0xCB, 0xD1], .set2C), ([0xCB, 0xD2], .set2D), ([0xCB, 0xD3], .set2E)],
      [([0xCB, 0xD4], .set2H), ([0xCB, 0xD5], .set2L), ([0xCB, 0xD6], .set2AtHl), ([0xCB, 0xD7], .set2A)],
      [([0xCB, 0xD8], .set3B), ([0xCB, 0xD9], .set3C), ([0xCB, 0xDA], .set3D), ([0xCB, 0xDB], .set3E)],
      [([0xCB, 0xDC], .set3H), ([0xCB, 0xDD], .set3L), ([0xCB, 0xDE], .set3AtHl), ([0xCB, 0xDF], .set3A)]] = true := by decide +kernel

theorem test_decode_CbEx :
    rowsOk [
      [([0xCB, 0xE0], .set4B), ([0xCB, 0xE1], .set4C), ([0xCB, 0xE2], .set4D), ([0xCB, 0xE3], .set4E)],
      [([0xCB, 0xE4], .set4H), ([0xCB, 0xE5], .set4L), ([0xCB, 0xE6], .set4AtHl), ([0xCB, 0xE7], .set4A)],
      [([0xCB, 0xE8], .set5B), ([0xCB, 0xE9], .set5C), ([0xCB, 0xEA], .set5D), ([0xCB, 0xEB], .set5E)],
      [([0xCB, 0xEC], .set5H), ([0xCB, 0xED], .set5L), ([0xCB, 0xEE], .set5AtHl), ([0xCB, 0xEF], .set5A)]] = true := by decide +kernel

theorem test_decode_CbFx :
    rowsOk [
      [([0xCB, 0xF0], .set6B), ([0xCB, 0xF1], .set6C), ([0xCB, 0xF2], .set6D), ([0xCB, 0xF3], .set6E)],
      [([0xCB, 0xF4], .set6H), ([0xCB, 0xF5], .set6L), ([0xCB, 0xF6], .set6AtHl), ([0xCB, 0xF7], .set6A)],
      [([0xCB, 0xF8], .set7B), ([0xCB, 0xF9], .set7C), ([0xCB, 0xFA], .set7D), ([0xCB, 0xFB], .set7E)],
      [([0xCB, 0xFC], .set7H), ([0xCB, 0xFD], .set7L), ([0xCB, 0xFE], .set7AtHl), ([0xCB, 0xFF], .set7A)]] = true := by decide +kernel

/-- The table's numbering: 8 bits for a primary row, 0xCB in the high byte of an extended row (log 11), operand bytes zero. -/
theorem test_decodeTableWord :
    decodeTableWord 8 0x00 = some .nop ∧ decodeTableWord 8 0xC3 = some (.jpA16 0x0000) ∧ decodeTableWord 8 0x18 = some (.jrE8 0) ∧
      decodeTableWord 16 0xCB37 = some .swapA ∧ decodeTableWord 8 0xD3 = some .illegalD3 := by decide +kernel

/-- Too few bytes are refused by name. -/
theorem test_decode_truncated :
    decode [] = .error .noBytes ∧ decode [0x01, 0x34] = .error (.truncated 0x01) ∧ decode [0xCB] = .error (.truncated 0xCB) ∧
      decode [0x10] = .error (.truncated 0x10) := by decide +kernel

/-! ## Vectors of spec/95_test_vectors.md, one step each; each theorem names its vectors -/

/-- The reset state with bytes in a 32 KiB ROM-only image from 0x0100 on. -/
def rom (bs : List Byte) : State :=
  { State.reset with mem := { Memory.empty with cartRom := Cells.ofBytes 0x100 bs }, cart := Cart.reset .romOnly 0x8000 2 0 }

/-- A direct store of a byte at a storage address or IE. -/
def poke (a : Addr) (v : Byte) (s : State) : State :=
  match resolve s.cart a with
  | .cell r i => { s with mem := s.mem.write r i v }
  | .ie => { s with ie := v }
  | _ => s

/-- One step answers a next state in which the check holds. -/
def after (s : State) (check : State → Bool) : Bool :=
  match step s with
  | .next t => check t
  | _ => false

theorem test_R300_V_LD_1_V_LD_2 :
    (after (let s := rom [0x41]; { s with regs := { s.regs with c := 0x5A, f := Flags.ofByte 0x00 } })
      (fun s => s.regs.b == 90 && s.regs.f.toByte == 0x00 && s.regs.pc == 257 && s.cycles == 4) &&
    after (let s := rom [0x7F]; { s with regs := { s.regs with a := 0x3C } })
      (fun s => s.regs.a == 60 && s.cycles == 4)) = true := by decide +kernel

theorem test_R303_V_LD_3 :
    (after (rom [0x06, 0x5A])
      (fun s => s.regs.b == 90 && s.regs.pc == 258 && s.cycles == 8)) = true := by decide +kernel

theorem test_R302_V_LD_4 :
    (after (let s := rom [0x77]; { s with regs := { s.regs with h := 0xC0, l := 0x00, a := 0x99 } })
      (fun s => busRead s 0xC000 == 0x99 && s.cycles == 8)) = true := by decide +kernel

theorem test_R301_V_LD_5 :
    (after (poke 0xC123 0xA5 (let s := rom [0x46]; { s with regs := { s.regs with h := 0xC1, l := 0x23 } }))
      (fun s => s.regs.b == 165 && s.cycles == 8)) = true := by decide +kernel

theorem test_R304_V_LD_6 :
    (after (let s := rom [0x36, 0x7E]; { s with regs := { s.regs with h := 0xC0, l := 0x10 } })
      (fun s => busRead s 0xC010 == 0x7E && s.regs.pc == 258 && s.cycles == 12)) = true := by decide +kernel

theorem test_R305_V_LD_7 :
    (after (poke 0xC200 0x11 (let s := rom [0x0A]; { s with regs := { s.regs with b := 0xC2, c := 0x00 } }))
      (fun s => s.regs.a == 17 && s.cycles == 8)) = true := by decide +kernel

theorem test_R306_V_LD_8 :
    (after (let s := rom [0x12]; { s with regs := { s.regs with d := 0xC2, e := 0x01, a := 0x22 } })
      (fun s => busRead s 0xC201 == 0x22 && s.cycles == 8)) = true := by decide +kernel

theorem test_R313_V_LD_9 :
    (after (poke 0xC0FF 0x12 (let s := rom [0x2A]; { s with regs := { s.regs with h := 0xC0, l := 0xFF } }))
      (fun s => s.regs.a == 18 && s.pair .hl == 0xC100 && s.cycles == 8)) = true := by decide +kernel

theorem test_R316_V_LD_10 :
    (after (let s := rom [0x32]; { s with regs := { s.regs with h := 0x00, l := 0x00, a := 0x77 } })
      (fun s => s.pair .hl == 0xFFFF && busRead s 0x0000 == 0x00 && s.cycles == 8)) = true := by decide +kernel

theorem test_R315_V_LD_11 :
    (after (let s := rom [0x22]; { s with regs := { s.regs with h := 0xFF, l := 0xFF, a := 0x1F } })
      (fun s => s.ie == 31 && s.pair .hl == 0x0000 && s.cycles == 8)) = true := by decide +kernel

theorem test_R314_V_LD_12 :
    (after (poke 0xC001 0x44 (let s := rom [0x3A]; { s with regs := { s.regs with h := 0xC0, l := 0x01 } }))
      (fun s => s.regs.a == 68 && s.pair .hl == 0xC000 && s.cycles == 8)) = true := by decide +kernel

theorem test_R310_V_LD_13 :
    (after (let s := rom [0xE0, 0x80]; { s with regs := { s.regs with a := 0x42 } })
      (fun s => busRead s 0xFF80 == 0x42 && s.cycles == 12)) = true := by decide +kernel

theorem test_R309_V_LD_14 :
    (after (let s := rom [0xF0, 0x44]; { s with regs := { s.regs with a := 0x12 } })
      (fun s => s.regs.a == 0 && s.cycles == 12)) = true := by decide +kernel

theorem test_R312_V_LD_15 :
    (after (let s := rom [0xE2]; { s with regs := { s.regs with c := 0x81, a := 0x33 } })
      (fun s => busRead s 0xFF81 == 0x33 && s.cycles == 8)) = true := by decide +kernel

theorem test_R311_V_LD_16 :
    (after (let s := rom [0xF2]; { s with regs := { s.regs with c := 0x0F }, ifl := 0x01 })
      (fun s => s.regs.a == 225 && s.cycles == 8)) = true := by decide +kernel

theorem test_R307_V_LD_17_V_LD_18 :
    (after (poke 0xC000 0x77 (rom [0xFA, 0x00, 0xC0]))
      (fun s => s.regs.a == 119 && s.regs.pc == 259 && s.cycles == 16) &&
    after (poke 0xC000 0x5C (rom [0xFA, 0x00, 0xE0]))
      (fun s => s.regs.a == 92 && s.cycles == 16)) = true := by decide +kernel

theorem test_R308_V_LD_20 :
    (after (let s := rom [0xEA, 0x34, 0xC0]; { s with regs := { s.regs with a := 0x9E } })
      (fun s => busRead s 0xC034 == 0x9E && s.cycles == 16)) = true := by decide +kernel

theorem test_R320_V_LD_21_V_LD_22 :
    (after (rom [0x21, 0x34, 0x12])
      (fun s => s.pair .hl == 0x1234 && s.regs.pc == 259 && s.cycles == 12) &&
    after (rom [0x31, 0x00, 0xD0])
      (fun s => s.regs.sp == 53248 && s.cycles == 12)) = true := by decide +kernel

theorem test_R321_V_LD_23 :
    (after (let s := rom [0x08, 0x00, 0xC0]; { s with regs := { s.regs with sp := 0xFFF8 } })
      (fun s => busRead s 0xC000 == 0xF8 && busRead s 0xC001 == 0xFF && s.cycles == 20)) = true := by decide +kernel

theorem test_R322_V_LD_24 :
    (after (let s := rom [0xF9]; { s with regs := { s.regs with h := 0xD0, l := 0x00 } })
      (fun s => s.regs.sp == 53248 && s.cycles == 8)) = true := by decide +kernel

theorem test_R323_V_LD_25_V_LD_26 :
    (after (let s := rom [0xF8, 0x02]; { s with regs := { s.regs with sp := 0xFFF8, f := Flags.ofByte 0xF0 } })
      (fun s => s.pair .hl == 0xFFFA && s.regs.f.toByte == 0x00 && s.regs.sp == 65528 && s.cycles == 12) &&
    after (let s := rom [0xF8, 0xFF]; { s with regs := { s.regs with sp := 0x0001 } })
      (fun s => s.pair .hl == 0x0000 && s.regs.f.toByte == 0x30 && s.cycles == 12)) = true := by decide +kernel

theorem test_R342_V_LD_28_V_LD_30 :
    (after (let s := rom [0xF5]; { s with regs := { s.regs with a := 0x12, f := Flags.ofByte 0xB0, sp := 0xFFFE } })
      (fun s => s.regs.sp == 65532 && busRead s 0xFFFC == 0xB0 && busRead s 0xFFFD == 0x12 && s.cycles == 16) &&
    after (let s := rom [0xC5]; { s with regs := { s.regs with b := 0xBE, c := 0xEF, sp := 0x0001 } })
      (fun s => s.regs.sp == 65535 && s.ie == 239 && s.cycles == 16)) = true := by decide +kernel

theorem test_R343_V_LD_29 :
    (after (poke 0xFFFD 0x12 (poke 0xFFFC 0xFF (let s := rom [0xF1]; { s with regs := { s.regs with sp := 0xFFFC } })))
      (fun s => s.regs.a == 18 && s.regs.f.toByte == 0xF0 && s.regs.sp == 65534 && s.cycles == 12)) = true := by decide +kernel

theorem test_R403_V_ALU_1_V_ALU_2 :
    (after (let s := rom [0x80]; { s with regs := { s.regs with a := 0x3A, b := 0xC6, f := Flags.ofByte 0x00 } })
      (fun s => s.regs.a == 0 && s.regs.f.toByte == 0xB0 && s.cycles == 4) &&
    after (let s := rom [0xC6, 0x01]; { s with regs := { s.regs with a := 0x0F, f := Flags.ofByte 0x00 } })
      (fun s => s.regs.a == 16 && s.regs.f.toByte == 0x20 && s.cycles == 8)) = true := by decide +kernel

theorem test_R404_V_ALU_6_V_ALU_7 :
    (after (let s := rom [0x8B]; { s with regs := { s.regs with a := 0xE1, e := 0x0F, f := Flags.ofByte 0x10 } })
      (fun s => s.regs.a == 241 && s.regs.f.toByte == 0x20 && s.cycles == 4) &&
    after (let s := rom [0xCE, 0xFF]; { s with regs := { s.regs with a := 0x00, f := Flags.ofByte 0x10 } })
      (fun s => s.regs.a == 0 && s.regs.f.toByte == 0xB0 && s.cycles == 8)) = true := by decide +kernel

theorem test_R405_V_ALU_9_V_ALU_10 :
    (after (let s := rom [0x93]; { s with regs := { s.regs with a := 0x3E, e := 0x3E, f := Flags.ofByte 0x00 } })
      (fun s => s.regs.a == 0 && s.regs.f.toByte == 0xC0 && s.cycles == 4) &&
    after (let s := rom [0xD6, 0x01]; { s with regs := { s.regs with a := 0x00, f := Flags.ofByte 0x00 } })
      (fun s => s.regs.a == 255 && s.regs.f.toByte == 0x70 && s.cycles == 8)) = true := by decide +kernel

theorem test_R406_V_ALU_12_V_ALU_13 :
    (after (let s := rom [0x9C]; { s with regs := { s.regs with a := 0x3B, h := 0x2A, f := Flags.ofByte 0x10 } })
      (fun s => s.regs.a == 16 && s.regs.f.toByte == 0x40 && s.cycles == 4) &&
    after (let s := rom [0x9F]; { s with regs := { s.regs with a := 0x55, f := Flags.ofByte 0x10 } })
      (fun s => s.regs.a == 255 && s.regs.f.toByte == 0x70 && s.cycles == 4)) = true := by decide +kernel

theorem test_R407_V_ALU_15_V_ALU_16 :
    (after (let s := rom [0xA5]; { s with regs := { s.regs with a := 0x5A, l := 0x3F, f := Flags.ofByte 0x00 } })
      (fun s => s.regs.a == 26 && s.regs.f.toByte == 0x20 && s.cycles == 4) &&
    after (let s := rom [0xE6, 0x00]; { s with regs := { s.regs with a := 0xFF, f := Flags.ofByte 0x10 } })
      (fun s => s.regs.a == 0 && s.regs.f.toByte == 0xA0 && s.cycles == 8)) = true := by decide +kernel

theorem test_R408_V_ALU_17_V_ALU_18 :
    (after (let s := rom [0xAF]; { s with regs := { s.regs with a := 0x77, f := Flags.ofByte 0x70 } })
      (fun s => s.regs.a == 0 && s.regs.f.toByte == 0x80 && s.cycles == 4) &&
    after (let s := rom [0xEE, 0x0F]; { s with regs := { s.regs with a := 0xFF, f := Flags.ofByte 0x00 } })
      (fun s => s.regs.a == 240 && s.regs.f.toByte == 0x00 && s.cycles == 8)) = true := by decide +kernel

theorem test_R409_V_ALU_19_V_ALU_20 :
    (after (let s := rom [0xB7]; { s with regs := { s.regs with a := 0x5A, f := Flags.ofByte 0x10 } })
      (fun s => s.regs.a == 90 && s.regs.f.toByte == 0x00 && s.cycles == 4) &&
    after (poke 0xC000 0x00 (let s := rom [0xB6]; { s with regs := { s.regs with a := 0x00, h := 0xC0, l := 0x00, f := Flags.ofByte 0x70 } }))
      (fun s => s.regs.a == 0 && s.regs.f.toByte == 0x80 && s.cycles == 8)) = true := by decide +kernel

theorem test_R410_V_ALU_21_V_ALU_22 :
    (after (let s := rom [0xFE, 0x40]; { s with regs := { s.regs with a := 0x3C, f := Flags.ofByte 0x00 } })
      (fun s => s.regs.a == 60 && s.regs.f.toByte == 0x50 && s.cycles == 8) &&
    after (let s := rom [0xFE, 0x2F]; { s with regs := { s.regs with a := 0x3C, f := Flags.ofByte 0x00 } })
      (fun s => s.regs.a == 60 && s.regs.f.toByte == 0x60 && s.cycles == 8)) = true := by decide +kernel

theorem test_R411_V_ALU_25_V_ALU_26 :
    (after (let s := rom [0x04]; { s with regs := { s.regs with b := 0x0F, f := Flags.ofByte 0x10 } })
      (fun s => s.regs.b == 16 && s.regs.f.toByte == 0x30 && s.cycles == 4) &&
    after (let s := rom [0x3C]; { s with regs := { s.regs with a := 0xFF, f := Flags.ofByte 0x40 } })
      (fun s => s.regs.a == 0 && s.regs.f.toByte == 0xA0 && s.cycles == 4)) = true := by decide +kernel

theorem test_R412_V_ALU_28_V_ALU_29 :
    (after (let s := rom [0x3D]; { s with regs := { s.regs with a := 0x01, f := Flags.ofByte 0x00 } })
      (fun s => s.regs.a == 0 && s.regs.f.toByte == 0xC0 && s.cycles == 4) &&
    after (let s := rom [0x05]; { s with regs := { s.regs with b := 0x00, f := Flags.ofByte 0x10 } })
      (fun s => s.regs.b == 255 && s.regs.f.toByte == 0x70 && s.cycles == 4)) = true := by decide +kernel

theorem test_R413_V_ALU_32_V_ALU_33 :
    (after (let s := rom [0x27]; { s with regs := { s.regs with a := 0x7D, f := Flags.ofByte 0x00 } })
      (fun s => s.regs.a == 131 && s.regs.f.toByte == 0x00 && s.cycles == 4) &&
    after (let s := rom [0x27]; { s with regs := { s.regs with a := 0x9A, f := Flags.ofByte 0x00 } })
      (fun s => s.regs.a == 0 && s.regs.f.toByte == 0x90 && s.cycles == 4)) = true := by decide +kernel

theorem test_R414_V_ALU_39_V_ALU_40 :
    (after (let s := rom [0x2F]; { s with regs := { s.regs with a := 0x35, f := Flags.ofByte 0x00 } })
      (fun s => s.regs.a == 202 && s.regs.f.toByte == 0x60 && s.cycles == 4) &&
    after (let s := rom [0x2F]; { s with regs := { s.regs with a := 0xFF, f := Flags.ofByte 0x00 } })
      (fun s => s.regs.a == 0 && s.regs.f.toByte == 0x60 && s.cycles == 4)) = true := by decide +kernel

theorem test_R415_V_ALU_41 :
    (after (let s := rom [0x37]; { s with regs := { s.regs with f := Flags.ofByte 0xE0 } })
      (fun s => s.regs.f.toByte == 0x90 && s.cycles == 4)) = true := by decide +kernel

theorem test_R416_V_ALU_42_V_ALU_43 :
    (after (let s := rom [0x3F]; { s with regs := { s.regs with f := Flags.ofByte 0x30 } })
      (fun s => s.regs.f.toByte == 0x00 && s.cycles == 4) &&
    after (let s := rom [0x3F]; { s with regs := { s.regs with f := Flags.ofByte 0xC0 } })
      (fun s => s.regs.f.toByte == 0x90 && s.cycles == 4)) = true := by decide +kernel

theorem test_R450_V_A16_1_V_A16_2 :
    (after (let s := rom [0x03]; { s with regs := { s.regs with b := 0xFF, c := 0xFF, f := Flags.ofByte 0xB0 } })
      (fun s => s.pair .bc == 0x0000 && s.regs.f.toByte == 0xB0 && s.cycles == 8) &&
    after (let s := rom [0x23]; { s with regs := { s.regs with h := 0x00, l := 0xFF } })
      (fun s => s.pair .hl == 0x0100 && s.cycles == 8)) = true := by decide +kernel

theorem test_R451_V_A16_3_V_A16_4 :
    (after (let s := rom [0x3B]; { s with regs := { s.regs with sp := 0x0000, f := Flags.ofByte 0x00 } })
      (fun s => s.regs.sp == 65535 && s.regs.f.toByte == 0x00 && s.cycles == 8) &&
    after (let s := rom [0x1B]; { s with regs := { s.regs with d := 0x01, e := 0x00 } })
      (fun s => s.pair .de == 0x00FF && s.cycles == 8)) = true := by decide +kernel

theorem test_R452_V_A16_5_V_A16_6 :
    (after (let s := rom [0x09]; { s with regs := { s.regs with h := 0x0F, l := 0xFF, b := 0x00, c := 0x01, f := Flags.ofByte 0x80 } })
      (fun s => s.pair .hl == 0x1000 && s.regs.f.toByte == 0xA0 && s.cycles == 8) &&
    after (let s := rom [0x29]; { s with regs := { s.regs with h := 0x80, l := 0x00, f := Flags.ofByte 0x40 } })
      (fun s => s.pair .hl == 0x0000 && s.regs.f.toByte == 0x10 && s.cycles == 8)) = true := by decide +kernel

theorem test_R453_V_A16_9_V_A16_10 :
    (after (let s := rom [0xE8, 0x02]; { s with regs := { s.regs with sp := 0xFFF8, f := Flags.ofByte 0x00 } })
      (fun s => s.regs.sp == 65530 && s.regs.f.toByte == 0x00 && s.cycles == 16) &&
    after (let s := rom [0xE8, 0xFF]; { s with regs := { s.regs with sp := 0x0000, f := Flags.ofByte 0x80 } })
      (fun s => s.regs.sp == 65535 && s.regs.f.toByte == 0x00 && s.cycles == 16)) = true := by decide +kernel

theorem test_R501_V_CT_1 :
    (after (rom [0xC3, 0x50, 0x01])
      (fun s => s.regs.pc == 336 && s.cycles == 16)) = true := by decide +kernel

theorem test_R502_V_CT_2_V_CT_3 :
    (after (let s := rom [0xC2, 0x00, 0x02]; { s with regs := { s.regs with f := Flags.ofByte 0x80 } })
      (fun s => s.regs.pc == 259 && s.cycles == 12) &&
    after (let s := rom [0xCA, 0x00, 0x02]; { s with regs := { s.regs with f := Flags.ofByte 0x80 } })
      (fun s => s.regs.pc == 512 && s.cycles == 16)) = true := by decide +kernel

theorem test_R503_V_CT_6 :
    (after (let s := rom [0xE9]; { s with regs := { s.regs with h := 0xC0, l := 0x00 } })
      (fun s => s.regs.pc == 49152 && s.cycles == 4)) = true := by decide +kernel

theorem test_R504_V_CT_7_V_CT_8 :
    (after (rom [0x18, 0xFE])
      (fun s => s.regs.pc == 256 && s.cycles == 12) &&
    after (rom [0x18, 0xFF])
      (fun s => s.regs.pc == 257 && s.cycles == 12)) = true := by decide +kernel

theorem test_R505_V_CT_12_V_CT_13 :
    (after (let s := rom [0x20, 0xFC]; { s with regs := { s.regs with f := Flags.ofByte 0x00 } })
      (fun s => s.regs.pc == 254 && s.cycles == 12) &&
    after (let s := rom [0x28, 0x10]; { s with regs := { s.regs with f := Flags.ofByte 0x00 } })
      (fun s => s.regs.pc == 258 && s.cycles == 8)) = true := by decide +kernel

theorem test_R506_V_CT_17 :
    (after (let s := rom [0xCD, 0x00, 0x40]; { s with regs := { s.regs with sp := 0xFFFE } })
      (fun s => s.regs.sp == 65532 && busRead s 0xFFFC == 0x03 && busRead s 0xFFFD == 0x01 && s.regs.pc == 16384 && s.cycles == 24)) = true := by decide +kernel

theorem test_R507_V_CT_18_V_CT_19 :
    (after (let s := rom [0xC4, 0x00, 0x40]; { s with regs := { s.regs with f := Flags.ofByte 0x80, sp := 0xFFFE } })
      (fun s => s.regs.pc == 259 && s.regs.sp == 65534 && s.cycles == 12) &&
    after (let s := rom [0xDC, 0x00, 0x40]; { s with regs := { s.regs with f := Flags.ofByte 0x10, sp := 0xD000 } })
      (fun s => s.regs.pc == 16384 && s.regs.sp == 53246 && busRead s 0xCFFE == 0x03 && busRead s 0xCFFF == 0x01 && s.cycles == 24)) = true := by decide +kernel

theorem test_R508_V_CT_20 :
    (after (poke 0xFFFD 0x01 (poke 0xFFFC 0x53 (let s := rom [0xC9]; { s with regs := { s.regs with sp := 0xFFFC } })))
      (fun s => s.regs.pc == 339 && s.regs.sp == 65534 && s.cycles == 16)) = true := by decide +kernel

theorem test_R509_V_CT_21_V_CT_22 :
    (after (poke 0xFFFD 0x01 (poke 0xFFFC 0x53 (let s := rom [0xC8]; { s with regs := { s.regs with f := Flags.ofByte 0x80, sp := 0xFFFC } })))
      (fun s => s.regs.pc == 339 && s.regs.sp == 65534 && s.cycles == 20) &&
    after (let s := rom [0xC0]; { s with regs := { s.regs with f := Flags.ofByte 0x80, sp := 0xFFFC } })
      (fun s => s.regs.pc == 257 && s.regs.sp == 65532 && s.cycles == 8)) = true := by decide +kernel

theorem test_R512_V_CT_24_V_CT_25 :
    (after (poke 0xFFFD 0x01 (poke 0xFFFC 0x53 (let s := rom [0xD9]; { s with ime := false, regs := { s.regs with sp := 0xFFFC }, ie := 0x00 })))
      (fun s => s.regs.pc == 339 && s.ime == true && s.regs.sp == 65534 && s.cycles == 16) &&
    after (poke 0xFFFD 0x01 (poke 0xFFFC 0x53 (let s := rom [0xD9]; { s with ime := false, regs := { s.regs with sp := 0xFFFC }, ie := 0x01, ifl := 0x01 })))
      (fun s => s.regs.pc == 64 && s.ime == false && s.regs.sp == 65532 && busRead s 0xFFFC == 0x53 && busRead s 0xFFFD == 0x01 && s.ifl == 0 && s.cycles == 36)) = true := by decide +kernel

theorem test_R510_V_CT_26_V_CT_27 :
    (after (let s := rom [0xEF]; { s with regs := { s.regs with sp := 0xD000 } })
      (fun s => s.regs.sp == 53246 && busRead s 0xCFFE == 0x01 && busRead s 0xCFFF == 0x01 && s.regs.pc == 40 && s.cycles == 16) &&
    after (let s := rom [0xC7]; { s with regs := { s.regs with sp := 0xFFFE } })
      (fun s => s.regs.pc == 0 && s.regs.sp == 65532 && s.cycles == 16)) = true := by decide +kernel

theorem test_R551_V_BIT_1_V_BIT_2 :
    (after (let s := rom [0x07]; { s with regs := { s.regs with a := 0x85, f := Flags.ofByte 0x00 } })
      (fun s => s.regs.a == 11 && s.regs.f.toByte == 0x10 && s.cycles == 4) &&
    after (let s := rom [0x07]; { s with regs := { s.regs with a := 0x00, f := Flags.ofByte 0x80 } })
      (fun s => s.regs.a == 0 && s.regs.f.toByte == 0x00 && s.cycles == 4)) = true := by decide +kernel

theorem test_R552_V_BIT_3 :
    (after (let s := rom [0x0F]; { s with regs := { s.regs with a := 0x01, f := Flags.ofByte 0x00 } })
      (fun s => s.regs.a == 128 && s.regs.f.toByte == 0x10 && s.cycles == 4)) = true := by decide +kernel

theorem test_R553_V_BIT_4 :
    (after (let s := rom [0x17]; { s with regs := { s.regs with a := 0x80, f := Flags.ofByte 0x00 } })
      (fun s => s.regs.a == 0 && s.regs.f.toByte == 0x10 && s.cycles == 4)) = true := by decide +kernel

theorem test_R554_V_BIT_5 :
    (after (let s := rom [0x1F]; { s with regs := { s.regs with a := 0x01, f := Flags.ofByte 0x10 } })
      (fun s => s.regs.a == 128 && s.regs.f.toByte == 0x10 && s.cycles == 4)) = true := by decide +kernel

theorem test_R555_V_BIT_6_V_BIT_7 :
    (after (let s := rom [0xCB, 0x00]; { s with regs := { s.regs with b := 0x80, f := Flags.ofByte 0x00 } })
      (fun s => s.regs.b == 1 && s.regs.f.toByte == 0x10 && s.regs.pc == 258 && s.cycles == 8) &&
    after (poke 0xC000 0x80 (let s := rom [0xCB, 0x06]; { s with regs := { s.regs with h := 0xC0, l := 0x00, f := Flags.ofByte 0x00 } }))
      (fun s => busRead s 0xC000 == 0x01 && s.regs.f.toByte == 0x10 && s.cycles == 16)) = true := by decide +kernel

theorem test_R556_V_BIT_8 :
    (after (let s := rom [0xCB, 0x09]; { s with regs := { s.regs with c := 0x01, f := Flags.ofByte 0x00 } })
      (fun s => s.regs.c == 128 && s.regs.f.toByte == 0x10 && s.cycles == 8)) = true := by decide +kernel

theorem test_R557_V_BIT_9_V_BIT_10 :
    (after (let s := rom [0xCB, 0x12]; { s with regs := { s.regs with d := 0x80, f := Flags.ofByte 0x00 } })
      (fun s => s.regs.d == 0 && s.regs.f.toByte == 0x90 && s.cycles == 8) &&
    after (let s := rom [0xCB, 0x11]; { s with regs := { s.regs with c := 0x00, f := Flags.ofByte 0x10 } })
      (fun s => s.regs.c == 1 && s.regs.f.toByte == 0x00 && s.cycles == 8)) = true := by decide +kernel

theorem test_R558_V_BIT_11_V_BIT_12 :
    (after (let s := rom [0xCB, 0x1B]; { s with regs := { s.regs with e := 0x01, f := Flags.ofByte 0x00 } })
      (fun s => s.regs.e == 0 && s.regs.f.toByte == 0x90 && s.cycles == 8) &&
    after (let s := rom [0xCB, 0x1F]; { s with regs := { s.regs with a := 0x00, f := Flags.ofByte 0x10 } })
      (fun s => s.regs.a == 128 && s.regs.f.toByte == 0x00 && s.cycles == 8)) = true := by decide +kernel

theorem test_R559_V_BIT_13_V_BIT_14 :
    (after (let s := rom [0xCB, 0x24]; { s with regs := { s.regs with h := 0xFF, f := Flags.ofByte 0x00 } })
      (fun s => s.regs.h == 254 && s.regs.f.toByte == 0x10 && s.cycles == 8) &&
    after (let s := rom [0xCB, 0x27]; { s with regs := { s.regs with a := 0x80, f := Flags.ofByte 0x00 } })
      (fun s => s.regs.a == 0 && s.regs.f.toByte == 0x90 && s.cycles == 8)) = true := by decide +kernel

theorem test_R560_V_BIT_15_V_BIT_16 :
    (after (let s := rom [0xCB, 0x2D]; { s with regs := { s.regs with l := 0x81, f := Flags.ofByte 0x00 } })
      (fun s => s.regs.l == 192 && s.regs.f.toByte == 0x10 && s.cycles == 8) &&
    after (let s := rom [0xCB, 0x2F]; { s with regs := { s.regs with a := 0x01, f := Flags.ofByte 0x00 } })
      (fun s => s.regs.a == 0 && s.regs.f.toByte == 0x90 && s.cycles == 8)) = true := by decide +kernel

theorem test_R561_V_BIT_17_V_BIT_18 :
    (after (let s := rom [0xCB, 0x37]; { s with regs := { s.regs with a := 0xF1, f := Flags.ofByte 0x70 } })
      (fun s => s.regs.a == 31 && s.regs.f.toByte == 0x00 && s.cycles == 8) &&
    after (let s := rom [0xCB, 0x37]; { s with regs := { s.regs with a := 0x00, f := Flags.ofByte 0x10 } })
      (fun s => s.regs.a == 0 && s.regs.f.toByte == 0x80 && s.cycles == 8)) = true := by decide +kernel

theorem test_R562_V_BIT_19_V_BIT_20 :
    (after (let s := rom [0xCB, 0x3F]; { s with regs := { s.regs with a := 0x01, f := Flags.ofByte 0x00 } })
      (fun s => s.regs.a == 0 && s.regs.f.toByte == 0x90 && s.cycles == 8) &&
    after (let s := rom [0xCB, 0x38]; { s with regs := { s.regs with b := 0x80, f := Flags.ofByte 0x10 } })
      (fun s => s.regs.b == 64 && s.regs.f.toByte == 0x00 && s.cycles == 8)) = true := by decide +kernel

theorem test_R563_V_BIT_21_V_BIT_22 :
    (after (let s := rom [0xCB, 0x7C]; { s with regs := { s.regs with h := 0x7F, f := Flags.ofByte 0x10 } })
      (fun s => s.regs.h == 127 && s.regs.f.toByte == 0xB0 && s.cycles == 8) &&
    after (let s := rom [0xCB, 0x7C]; { s with regs := { s.regs with h := 0x80, f := Flags.ofByte 0xC0 } })
      (fun s => s.regs.f.toByte == 0x20 && s.cycles == 8)) = true := by decide +kernel

theorem test_R564_V_BIT_24_V_BIT_25 :
    (after (let s := rom [0xCB, 0x87]; { s with regs := { s.regs with a := 0xFF, f := Flags.ofByte 0x50 } })
      (fun s => s.regs.a == 254 && s.regs.f.toByte == 0x50 && s.cycles == 8) &&
    after (poke 0xC000 0xFF (let s := rom [0xCB, 0xBE]; { s with regs := { s.regs with h := 0xC0, l := 0x00 } }))
      (fun s => busRead s 0xC000 == 0x7F && s.cycles == 16)) = true := by decide +kernel

theorem test_R565_V_BIT_26_V_BIT_27 :
    (after (poke 0xC000 0x00 (let s := rom [0xCB, 0xFE]; { s with regs := { s.regs with h := 0xC0, l := 0x00, f := Flags.ofByte 0x00 } }))
      (fun s => busRead s 0xC000 == 0x80 && s.regs.f.toByte == 0x00 && s.cycles == 16) &&
    after (let s := rom [0xCB, 0xC0]; { s with regs := { s.regs with b := 0x00 } })
      (fun s => s.regs.b == 1 && s.cycles == 8)) = true := by decide +kernel

theorem test_R604_V_SYS_1 :
    (after (rom [0x00])
      (fun s => s.regs.pc == 257 && s.cycles == 4)) = true := by decide +kernel

theorem test_R606_V_SYS_2 :
    (after (let s := rom [0xFB, 0x00]; { s with ime := false, ie := 0x01, ifl := 0x01, regs := { s.regs with sp := 0xFFFE } })
      (fun s => s.ime == false && s.imePending == ImePending.set && s.regs.pc == 257 && s.cycles == 4)) = true := by decide +kernel

theorem test_R605_V_SYS_4 :
    (after (let s := rom [0xF3, 0x00]; { s with ime := true, ie := 0x01, ifl := 0x01, regs := { s.regs with sp := 0xFFFE } })
      (fun s => s.ime == false && s.imePending == ImePending.clear && s.regs.pc == 64 && busRead s 0xFFFC == 0x01 && busRead s 0xFFFD == 0x01 && s.cycles == 24)) = true := by decide +kernel

theorem test_R610_V_SYS_6 :
    (after (let s := rom [0x76]; { s with ime := true, ie := 0x01, ifl := 0x01, regs := { s.regs with sp := 0xFFFE } })
      (fun s => s.run == RunState.running && s.regs.pc == 64 && busRead s 0xFFFC == 0x01 && busRead s 0xFFFD == 0x01 && s.ifl == 0 && s.cycles == 24)) = true := by decide +kernel

theorem test_R612_V_SYS_10 :
    (after (let s := rom [0x10, 0x00]; { s with timer := { s.timer with div := 0x55, divSub := 200 } })
      (fun s => s.regs.pc == 258 && s.run == RunState.stopped && s.timer.div == 0 && s.timer.divSub == 4 && s.cycles == 4)) = true := by decide +kernel

theorem test_R620_V_SYS_12_V_SYS_13 :
    (after (rom [0xD3])
      (fun s => s.faultRec == FaultRecord.illegalOpcode 0xD3 0x0100 && s.run == RunState.locked && s.regs.pc == 257 && s.cycles == 0) &&
    after (let s := rom [0xFD]; { s with ime := true, ie := 0x01, ifl := 0x01 })
      (fun s => s.run == RunState.locked && s.ifl == 1 && s.regs.sp == 65534 && s.cycles == 0)) = true := by decide +kernel

theorem test_R711_V_INT_1_V_INT_2 :
    (after (let s := rom [0x00]; { s with ime := true, ie := 0x1F, ifl := 0x1F, regs := { s.regs with sp := 0xFFFE } })
      (fun s => s.regs.pc == 64 && s.ifl == 30 && s.ime == false && s.regs.sp == 65532 && busRead s 0xFFFC == 0x01 && busRead s 0xFFFD == 0x01 && s.cycles == 24) &&
    after (let s := rom [0x00]; { s with ime := true, ie := 0x1F, ifl := 0x14 })
      (fun s => s.regs.pc == 80 && s.ifl == 16 && s.cycles == 24)) = true := by decide +kernel

theorem test_R701_V_INT_6_V_INT_7 :
    (after (let s := rom [0x00]; { s with ime := true, ie := 0x10, ifl := 0x05 })
      (fun s => s.regs.pc == 257 && s.ifl == 5 && s.cycles == 4) &&
    after (let s := rom [0x00]; { s with ime := false, ie := 0x1F, ifl := 0x1F })
      (fun s => s.regs.pc == 257 && s.ifl == 31 && s.cycles == 4)) = true := by decide +kernel

theorem test_R720_V_INT_9_V_INT_10 :
    (after (let s := rom [0x00]; { s with ime := true, ie := 0x01, ifl := 0x01, regs := { s.regs with sp := 0xFF11 } })
      (fun s => s.regs.pc == 64 && s.regs.sp == 65295 && s.ifl == 1 && busRead s 0xFF10 == 0x01 && s.cycles == 24) &&
    after (let s := rom [0x00]; { s with ime := true, ie := 0x01, ifl := 0x01, regs := { s.regs with sp := 0x0001 } })
      (fun s => s.regs.pc == 64 && s.regs.sp == 65535 && s.ie == 1 && s.ifl == 0 && s.cycles == 24)) = true := by decide +kernel

theorem test_R752_V_TIM_1_V_TIM_5 :
    (after (let s := rom [0x00]; { s with timer := { s.timer with enable := true, sel := 1, tima := 0xFF, tma := 0xAB, timaSub := 12 }, ifl := 0x00 })
      (fun s => s.timer.tima == 171 && s.timer.timaSub == 0 && s.ifl == 4 && s.cycles == 4) &&
    after (let s := rom [0xCD, 0x00, 0x40]; { s with timer := { s.timer with enable := true, sel := 1, tima := 0xFF, tma := 0xFF, timaSub := 8 }, ifl := 0x00 })
      (fun s => s.timer.tima == 255 && s.timer.timaSub == 0 && s.ifl == 4 && s.cycles == 24)) = true := by decide +kernel

theorem test_R751_V_TIM_2_V_TIM_3 :
    (after (let s := rom [0x00]; { s with timer := { s.timer with enable := true, sel := 0, tima := 0x10, timaSub := 1020 } })
      (fun s => s.timer.tima == 17 && s.timer.timaSub == 0 && s.cycles == 4) &&
    after (let s := rom [0x00]; { s with timer := { s.timer with enable := false, sel := 1, tima := 0x10, timaSub := 12 } })
      (fun s => s.timer.tima == 16 && s.timer.timaSub == 12 && s.cycles == 4)) = true := by decide +kernel

theorem test_R750_V_TIM_6 :
    (after (let s := rom [0x00]; { s with timer := { s.timer with div := 0xFF, divSub := 252 } })
      (fun s => s.timer.div == 0 && s.timer.divSub == 0 && s.ifl == 1 && s.cycles == 4)) = true := by decide +kernel

theorem test_R761_V_TIM_7 :
    (after (let s := rom [0xE0, 0x04]; { s with timer := { s.timer with div := 0x80, divSub := 100, timaSub := 7, enable := false } })
      (fun s => s.timer.div == 0 && s.timer.divSub == 12 && s.timer.timaSub == 7 && s.cycles == 12)) = true := by decide +kernel

theorem test_R760_V_TIM_8_V_TIM_9 :
    (after (let s := rom [0xE0, 0x07]; { s with regs := { s.regs with a := 0x07 }, timer := { s.timer with tima := 0x00, timaSub := 0 } })
      (fun s => s.timer.enable == true && s.timer.sel == 3 && s.timer.tima == 0 && s.timer.timaSub == 12 && busRead s 0xFF07 == 0xFF && s.cycles == 12) &&
    after (let s := rom [0xE0, 0x07]; { s with regs := { s.regs with a := 0x05 }, timer := { s.timer with tima := 0x00, timaSub := 40 } })
      (fun s => s.timer.sel == 1 && s.timer.tima == 3 && s.timer.timaSub == 4 && s.cycles == 12)) = true := by decide +kernel

theorem test_R820_V_PPU_4_V_PPU_5 :
    (after (let s := rom [0x00]; { s with ppu := { s.ppu with ly := 143, lineCyc := 452, mode := .hblank }, ifl := 0x00 })
      (fun s => s.ppu.ly == 144 && s.ppu.lineCyc == 0 && s.ppu.mode == PpuMode.vblank && s.ifl == 1 && s.cycles == 4) &&
    after (let s := rom [0x00]; { s with ppu := { s.ppu with ly := 153, lineCyc := 452, mode := .vblank }, ifl := 0x00 })
      (fun s => s.ppu.ly == 0 && s.ppu.lineCyc == 0 && s.ppu.mode == PpuMode.oamScan && s.ifl == 0 && s.cycles == 4)) = true := by decide +kernel

theorem test_R830_V_PPU_6_V_PPU_7 :
    (after (let s := rom [0x00]; { s with ppu := { s.ppu with ly := 9, lineCyc := 452, mode := .hblank, lyc := 0x0A, statHi := 0x08 }, ifl := 0x00 })
      (fun s => s.ppu.ly == 10 && s.ifl == 2 && busRead s 0xFF41 == 0xC6 && s.cycles == 4) &&
    after (let s := rom [0xE0, 0x45]; { s with regs := { s.regs with a := 0x00 }, ppu := { s.ppu with ly := 0, lineCyc := 100, mode := .transfer, statHi := 0x08, lyc := 0x05 }, ifl := 0x00 })
      (fun s => s.ppu.lyc == 0 && s.ifl == 0 && busRead s 0xFF41 == 0xC7 && s.cycles == 12)) = true := by decide +kernel

theorem test_R130_V_PPU_8_V_PPU_9 :
    (after (let s := rom [0xE0, 0x44]; { s with regs := { s.regs with a := 0x99 }, ppu := { s.ppu with ly := 5, lineCyc := 100, mode := .transfer } })
      (fun s => s.ppu.ly == 5 && s.cycles == 12) &&
    after (let s := rom [0xF0, 0x41]; { s with ppu := { s.ppu with ly := 0, lineCyc := 0, mode := .oamScan, statHi := 0x00, lyc := 0x00 } })
      (fun s => s.regs.a == 134 && s.cycles == 12)) = true := by decide +kernel

theorem test_R801_V_JOY_1_V_JOY_5 :
    (after (rom [0xF0, 0x00])
      (fun s => s.regs.a == 207 && s.cycles == 12) &&
    after (let s := rom [0xF0, 0x00]; { s with hostMoves := [[.press .a, .press .right]] })
      (fun s => s.regs.a == 206 && s.cycles == 12)) = true := by decide +kernel

theorem test_R802_V_JOY_6 :
    (after (let s := rom [0x00]; { s with ifl := 0x00, hostMoves := [[.press .b]] })
      (fun s => s.ifl == 16 && s.cycles == 4)) = true := by decide +kernel
/-! ## The bus controller, the DMA and the renderer, from the same file -/

/-- An MBC1 cartridge of 4 banks whose banks 1, 2, 3 begin with 1, 2, 3, and 32 KiB of RAM. -/
def mbc1 : State :=
  { State.reset with mem := { Memory.empty with cartRom := [(0x4000, 0x01), (0x8000, 0x02), (0xC000, 0x03)] },
                     cart := Cart.reset .mbc1 0x10000 4 0x8000 }

/-- V-MBC-1 to V-MBC-4: the bank that a write to 0x2000 selects. -/
theorem test_V_MBC_1_to_4 :
    (busWrite mbc1 0x2000 0x00).cart.bankLo = 1 ∧ busRead (busWrite mbc1 0x2000 0x00) 0x4000 = 0x01 ∧
      busRead (busWrite mbc1 0x2000 0x02) 0x4000 = 0x02 ∧ busRead (busWrite mbc1 0x2000 0x07) 0x4000 = 0x03 ∧
      (busWrite mbc1 0x2000 0xE3).cart.bankLo = 3 := by decide +kernel

/-- V-MBC-5, V-MBC-6: external RAM answers while enabled and keeps its contents. -/
theorem test_V_MBC_5_6 :
    let s := busWrite (busWrite mbc1 0x0000 0x1A) 0xA000 0x5A
    busRead s 0xA000 = 0x5A ∧ busRead (busWrite s 0x0000 0x00) 0xA000 = 0xFF ∧
      (busWrite s 0x0000 0x00).mem.read .cartRam 0 = 0x5A := by decide +kernel

/-- V-MBC-7, V-MBC-8: the RAM bank in mode 1, and the ROM-only cartridge. -/
theorem test_V_MBC_7_8 :
    (busWrite (busWrite (busWrite (busWrite mbc1 0x0000 0x0A) 0x6000 0x01) 0x4000 0x01) 0xA000 0x77).mem.read .cartRam 0x2000 = 0x77 ∧
      busWrite (rom []) 0x2000 0x00 = rom [] ∧ busRead (rom []) 0xA000 = 0xFF := by decide +kernel

/-- OAM DMA from 0xC100 (W11, V-DMA-1): the first and the last byte copied. -/
theorem test_oamDma :
    let s := busWrite (poke 0xC19F 0x22 (poke 0xC100 0x11 (rom []))) 0xFF46 0xC1
    s.mem.read .oam 0 = 0x11 ∧ s.mem.read .oam 159 = 0x22 ∧ busRead s 0xFF46 = 0xC1 := by decide +kernel

/-- A PPU with the given LCDC, BGP = 0xE4 and sprites. -/
def painter (lcdc : Byte) (spr : List Sprite) : Ppu :=
  { State.reset.ppu with lcdc := lcdc, bgp := 0xE4, obp0 := 0xE4, obp1 := 0x00, spr := spr }

/-- Video RAM with tile 0 row 0 = 0xF0, 0xCC (V-REN-1) and further bytes. -/
def tiles (more : List Host.Cell) : Memory := { Memory.empty with vram := [(0, 0xF0), (1, 0xCC)] ++ more }

/-- V-REN-1 to V-REN-5: the background. -/
theorem test_V_REN_1_to_5 :
    (lineShades (tiles []) (painter 0x91 []) 0).take 9 = [3, 3, 1, 1, 2, 2, 0, 0, 3] ∧
      (lineShades (tiles []) { painter 0x91 [] with scx := 2 } 0).take 8 = [1, 1, 2, 2, 0, 0, 3, 3] ∧
      (lineShades (tiles []) { painter 0x91 [] with bgp := 0x1B } 0).take 8 = [0, 0, 2, 2, 1, 1, 3, 3] ∧
      (lineShades (tiles [(0x1000, 0xFF)]) (painter 0x81 []) 0).take 8 = [1, 1, 1, 1, 1, 1, 1, 1] ∧
      lineShades (tiles []) (painter 0x90 []) 0 = List.replicate 160 0 := by decide +kernel

/-- V-REN-6: the window from column WX - 7 on, its map filled with tile 1 where the line reads it. -/
theorem test_V_REN_6 :
    let s := (lineShades (tiles ([(0x10, 0xFF), (0x11, 0xFF)] ++ (List.range 10).map (fun i => (0x1C00 + i, 0x01))))
      { painter 0xF1 [] with wy := 0, wx := 87 } 0)
    (s.drop 72).take 8 = [3, 3, 1, 1, 2, 2, 0, 0] ∧ s.drop 80 = List.replicate 80 3 := by decide +kernel

/-- V-REN-7 to V-REN-9: a sprite, its X flip, its second palette. -/
theorem test_V_REN_7_to_9 :
    let m := tiles [(0x10, 0x80)]
    (lineShades m (painter 0x93 [⟨16, 8, 1, 0x00, 0⟩]) 0).take 2 = [1, 3] ∧
      (lineShades m (painter 0x93 [⟨16, 8, 1, 0x20, 0⟩]) 0).getD 7 0 = 1 ∧
      (lineShades m (painter 0x93 [⟨16, 8, 1, 0x20, 0⟩]) 0).getD 0 0 = 3 ∧
      (lineShades m (painter 0x93 [⟨16, 8, 1, 0x10, 0⟩]) 0).getD 0 0 = 0 := by decide +kernel

/-- V-REN-10, V-REN-11: which of two sprites wins. -/
theorem test_V_REN_10_11 :
    let m := tiles [(0x10, 0xFF), (0x20, 0xFF), (0x21, 0xFF)]
    (lineShades m (painter 0x93 [⟨16, 8, 1, 0x00, 0⟩, ⟨16, 8, 2, 0x00, 1⟩]) 0).getD 0 0 = 3 ∧
      (lineShades m (painter 0x93 [⟨16, 9, 1, 0x00, 0⟩, ⟨16, 8, 2, 0x00, 1⟩]) 0).getD 7 0 = 3 ∧
      (lineShades m (painter 0x93 [⟨16, 9, 1, 0x00, 0⟩, ⟨16, 8, 2, 0x00, 1⟩]) 0).getD 8 0 = 1 := by decide +kernel

/-- V-REN-12, V-REN-13: 8 x 16 sprites and the Y flip. -/
theorem test_V_REN_12_13 :
    (lineShades (tiles [(0x30, 0x80)]) (painter 0x97 [⟨8, 8, 3, 0x00, 0⟩]) 0).getD 0 0 = 1 ∧
      (lineShades (tiles [(0x1E, 0x80)]) (painter 0x93 [⟨16, 8, 1, 0x40, 0⟩]) 0).getD 0 0 = 1 := by decide +kernel

/-! ## The load (W8): the header vectors, on images that end with the header -/

/-- An image with a first logo byte, a title, a type, the two size codes and a stored checksum. -/
def header (logo0 : Byte) (title : List Byte) (type romCode ramCode sum : Byte) : List Byte :=
  List.replicate 0x104 0 ++ (logo0 :: Config.logo.drop 1) ++ (title ++ List.replicate (19 - title.length) 0) ++
    [type, romCode, ramCode, 0, 0, 0, sum, 0, 0]

/-- Why an image is refused, if it is. -/
def verdict (img : List Byte) : Option LoadRefusal :=
  match cartCheck img with
  | .ok _ => none
  | .error r => some r

theorem test_V_HDR_1_to_6 :
    verdict (header 0xCE [] 0 0 0 0xE7) = none ∧ verdict (header 0xCE [] 0 0 0 0xE6) = some .invalidHeader ∧
      verdict (header 0xCE [0x54, 0x45, 0x53, 0x54] 0 0 0 0xA7) = none ∧ verdict (header 0xCE [] 1 0 0 0xE6) = none ∧
      (match cartCheck (header 0xCE [] 1 1 0 0xE5) with | .ok c => c.nrom == 4 && c.kind == .mbc1 | .error _ => false) = true ∧
      (match cartCheck (header 0xCE [] 2 0 2 0xE3) with | .ok c => c.ramSize == 8192 | .error _ => false) = true := by decide +kernel

theorem test_V_HDR_7_to_11 :
    verdict (header 0xCE [] 5 0 0 0xE2) = some .unsupportedCartridgeType ∧ verdict (header 0xCE [] 1 9 0 0xDD) = some .invalidHeader ∧
      verdict (header 0x00 [] 0 0 0 0xE7) = some .invalidHeader ∧
      verdict ((header 0xCE [] 0 0 0 0xE7).take 0x14F) = some .invalidHeader ∧
      verdict (header 0xCE [] 5 9 0 0xE6) = some .invalidHeader := by decide +kernel

/-! ## A word placed where the next step fetches (log 12) -/

theorem test_withFetchWord :
    after (State.reset.withFetchWord 8 0x3C) (fun s => s.regs.a == 0x02 && s.regs.pc == 0x0101) = true ∧
      after (State.reset.withFetchWord 16 0xCB37) (fun s => s.regs.a == 0x10 && s.regs.pc == 0x0102) = true ∧
      after (State.reset.withFetchWord 8 0x18) (fun s => s.regs.pc == 0x0102) = true ∧
      after (State.reset.withFetchWord 8 0xD3) (fun s => s.faultRec == .illegalOpcode 0xD3 0x0100) = true := by decide +kernel

/-! ## Witnesses: for every statement with hypotheses, states and operands that meet them, at the ends of their ranges -/

/-- The reset state with bytes at 0xC000, PC there and SP = 0xD000. -/
def ready (bs : List Byte) : State :=
  { State.reset with mem := { Memory.empty with wram := Cells.ofBytes 0 bs },
                     regs := { State.reset.regs with pc := 0xC000, sp := 0xD000 } }

/-- The outcome is a next state. -/
def isNext (r : Result) : Bool :=
  match r with
  | .next _ => true
  | _ => false

theorem next_of_isNext {r : Result} (h : isNext r = true) : ∃ t, r = .next t := by
  cases r with
  | next t => exact ⟨t, rfl⟩
  | fault f => simp [isNext] at h
  | refused f => simp [isNext] at h

theorem witness_AddDisplacementToSp : ∀ e ∈ [(-128 : Int), 0, 127], -128 ≤ e ∧ e ≤ 127 := by decide

theorem witness_Jumps : ∀ e ∈ [(-128 : Int), -1, 127], -128 ≤ e ∧ e ≤ 127 := by decide

/-- The MBC1 cartridge with its external RAM enabled. -/
def ramOn : State := busWrite mbc1 0x0000 0x0A

theorem witness_PushThenPopGivesTheValueBack :
    ∀ p ∈ [(ready [0x3C], (0x8002 : Word)), (ready [0x3C], 0xE001), (ready [0x3C], 0xFFFF), (ramOn, 0xA002), (ramOn, 0xC000), (ramOn, 0xA001)],
      let s : State := { p.1 with regs := { p.1.regs with sp := p.2 } }
      s.mem.wf ∧ s.cart.ramSize ≠ 1 ∧ (cellAt s.cart (s.regs.sp - 2).toNat).isSome = true ∧
        (cellAt s.cart (s.regs.sp - 1).toNat).isSome = true := by decide +kernel

theorem witness_HaltThenIdleSteps :
    (∀ p ∈ [((0x01 : Byte), (0x01 : BitVec 5), 0), (0x10, 0x10, 4)],
      let s : State := { ready [] with ie := p.1, ifl := p.2.1 }
      s.ime = false ∧ p.2.2 < 5 ∧ s.ie.getLsbD p.2.2 = true ∧ s.ifl.getLsbD p.2.2 = true) ∧
    ¬ ((ready []).ime = false ∧ ∃ k, k < 5 ∧ (ready []).ie.getLsbD k = true ∧ (ready []).ifl.getLsbD k = true) ∧
    (hostTurn { ready [] with run := .halted }).run = .halted := by
  refine ⟨by decide, ?_, rfl⟩
  rintro ⟨-, k, hk, h, -⟩
  have : ∀ k, k < 5 → (ready []).ie.getLsbD k = false := by decide
  simp [this k hk] at h

/-- The host's release of a button changes nothing that could wake the core. -/
def idleHost (r : RunState) : State := { ready [] with run := r, hostMoves := [[.release .a]] }

theorem witness_StopStopsTheClock : (hostTurn (idleHost .stopped)).run = .stopped ∧ ∃ t, step (idleHost .stopped) = .next t :=
  ⟨rfl, next_of_isNext (by decide +kernel)⟩

theorem witness_IllegalOpcodesLockTheCore :
    (∀ p ∈ illegal, (hostTurn (ready [p.2])).run = .running ∧ (hostTurn (ready [p.2])).haltRepeat = false ∧
      busRead (hostTurn (ready [p.2])) (ready [p.2]).regs.pc = p.2) ∧
    (hostTurn (idleHost .locked)).run = .locked ∧ ∃ t, step (idleHost .locked) = .next t :=
  ⟨by decide +kernel, rfl, next_of_isNext (by decide +kernel)⟩

theorem witness_StepRunsTheDecodedInstruction :
    let s := ready [0x01, 0x34, 0x12]
    (hostTurn s).run = .running ∧ (hostTurn s).haltRepeat = false ∧ (Instr.ldBcN16 0x1234).wellFormed = true ∧
      bytesAt (hostTurn s) (encode (.ldBcN16 0x1234)) := by
  refine ⟨rfl, rfl, rfl, ?_⟩
  unfold bytesAt
  decide +kernel

theorem witness_HaltRepeatRereadsTheOpcode :
    let s : State := { ready [0x06, 0x05] with haltRepeat := true }
    (hostTurn s).run = .running ∧ (hostTurn s).haltRepeat = true ∧ isNext (step s) = true := by decide +kernel

theorem witness_StagedImeTakesEffectAtTheNextDispatch :
    ({ ready [] with imePending := .set } : State).imePending = .set ∧ ({ ready [] with imePending := .clear } : State).imePending = .clear ∧
      (ready []).imePending = .none ∧
      (let s : State := { ready [0xFB] with ie := 0x01, ifl := 0x01 }
       (hostTurn s).run = .running ∧ (hostTurn s).haltRepeat = false ∧ busRead (hostTurn s) s.regs.pc = 0xFB ∧
         (applyPending s).ime = false) := by decide +kernel

theorem witness_PollTakesTheFirstPendingLine :
    (∀ k, k < 5 → ((ready []).ie.getLsbD k && (ready []).ifl.getLsbD k) = false) ∧
    (∀ k, k < 5 →
      let s : State := { ready [] with ie := 0x1F, ifl := BitVec.ofNat 5 (32 - 2 ^ k), ime := true, run := .halted }
      (s.ie.getLsbD k && s.ifl.getLsbD k) = true ∧ (∀ j, j < k → (s.ie.getLsbD j && s.ifl.getLsbD j) = false) ∧ s.ime = true) ∧
    (let s : State := { ready [] with ie := 0x10, ifl := 0x10 }
     (s.ie.getLsbD 4 && s.ifl.getLsbD 4) = true ∧ s.ime = false) := by decide

theorem witness_RaiseAndAcknowledgeOneLine : ∀ k ∈ [0, 4], k < 5 := by decide

theorem witness_AddressMap_storage :
    storage (0x8000 : Addr).toNat = some (.vram, 0) ∧ storage (0x9FFF : Addr).toNat = some (.vram, 0x1FFF) ∧
    storage (0xC000 : Addr).toNat = some (.wram, 0) ∧ storage (0xDFFF : Addr).toNat = some (.wram, 0x1FFF) ∧
    storage (0xE000 : Addr).toNat = some (.wram, 0) ∧ storage (0xFDFF : Addr).toNat = some (.wram, 0x1DFF) ∧
    storage (0xFE00 : Addr).toNat = some (.oam, 0) ∧ storage (0xFE9F : Addr).toNat = some (.oam, 159) ∧
    storage (0xFF10 : Addr).toNat = some (.audio, 0) ∧ storage (0xFF3F : Addr).toNat = some (.audio, 47) ∧
    storage (0xFF80 : Addr).toNat = some (.hram, 0) ∧ storage (0xFFFE : Addr).toNat = some (.hram, 126) := by decide +kernel

theorem witness_AddressMap :
    (0x0000 : Addr).toNat < 0x8000 ∧ (0x7FFF : Addr).toNat < 0x8000 ∧
    0xA000 ≤ (0xA000 : Addr).toNat ∧ (0xA000 : Addr).toNat < 0xC000 ∧ 0xA000 ≤ (0xBFFF : Addr).toNat ∧ (0xBFFF : Addr).toNat < 0xC000 ∧
    (busWrite mbc1 0x0000 0x0A).cart.ramOffset 0xA000 = some 0 ∧ (busWrite mbc1 0x0000 0x0A).cart.ramOffset 0xBFFF = some 0x1FFF ∧
    mbc1.cart.ramOffset 0xA000 = none ∧ mbc1.cart.ramOffset 0xBFFF = none ∧
    0xFEA0 ≤ (0xFEA0 : Addr).toNat ∧ (0xFEA0 : Addr).toNat < 0xFF00 ∧ 0xFEA0 ≤ (0xFEFF : Addr).toNat ∧ (0xFEFF : Addr).toNat < 0xFF00 ∧ (0xFFFF : Addr).toNat = 0xFFFF := by decide +kernel

theorem witness_StorageReadsBackAndKeepsTheRest :
    (ready []).mem.wf ∧ (∀ a ∈ [0xC000, 0xFFFE], (cellAt (ready []).cart a).isSome = true) ∧
    (∀ p ∈ [(0xE000, 0xC000), (0xFDFF, 0xDDFF)], cellAt (ready []).cart p.1 = cellAt (ready []).cart p.2) ∧
    (∀ p ∈ [(0xFFFF, 0xFFFE), (0x9FFF, 0x8000)], cellAt (ready []).cart p.1 ≠ cellAt (ready []).cart p.2) := by decide +kernel

theorem witness_StorageReadsBackAndKeepsTheRest_cartRam :
    ramOn.mem.wf ∧ (∀ a ∈ [0xA000, 0xBFFF], (cellAt ramOn.cart a).isSome = true ∧ cellAt mbc1.cart a = none) ∧
    cellAt { ramOn.cart with ramSize := 2048 } 0xA800 = cellAt { ramOn.cart with ramSize := 2048 } 0xA000 ∧
    cellAt ramOn.cart 0xBFFF ≠ cellAt ramOn.cart 0xA000 := by decide +kernel

theorem stores_pushBc_ready : stores .pushBc (ready []) = [(0xCFFE, 0x13), (0xCFFF, 0x00)] := by decide +kernel

theorem witness_EveryInstructionChangesOnlyTheBytesItStores :
    (∃ t, exec .pushBc (ready []) = .next t) ∧ (ready []).mem.wf ∧
      (∀ p ∈ stores .pushBc (ready []), ∃ r k, resolve (ready []).cart p.1 = .cell r k) ∧
      (∀ p ∈ stores .pushBc (ready []), resolve (ready []).cart 0xD000 ≠ resolve (ready []).cart p.1) ∧ Instr.pushBc ≠ .stop 0x00 := by
  rw [stores_pushBc_ready]
  refine ⟨next_of_isNext (by decide +kernel), by decide +kernel, ?_, ?_, by decide⟩
  · intro p hp
    rcases (by simpa using hp : p = _ ∨ p = _) with rfl | rfl
    · exact ⟨.wram, 0x0FFE, by decide +kernel⟩
    · exact ⟨.wram, 0x0FFF, by decide +kernel⟩
  · intro p hp
    rcases (by simpa using hp : p = _ ∨ p = _) with rfl | rfl <;> decide +kernel

theorem witness_EachInstructionKeepsTheOthersControlState : ∃ t, exec .nop (ready []) = .next t := next_of_isNext (by decide +kernel)

theorem witness_IoRegisterReads_and_Writes : ∀ k ∈ [1, 14, 0x4C, 0x7F], k < 0x80 ∧ (k ∈ [1, 2, 3, 8, 9, 10, 11, 12, 13, 14] ∨ 0x4C ≤ k) := by
  decide

theorem witness_OamDmaCopies160Bytes : (ready [0x3C]).mem.wf ∧ (159 : Nat) < 160 ∧ Region.wram ≠ .oam := by decide +kernel

theorem witness_CartridgeReadsAndBanks :
    (rom []).cart.kind = .romOnly ∧ mbc1.cart.kind = .mbc1 ∧ (busWrite mbc1 0x1FFF 0x0A).cart.ramEn = true ∧
      mbc1.cart.ramEn = false ∧ mbc1.cart.ramSize ≠ 0 ∧ (rom []).cart.ramSize = 0 ∧
      (∀ p ∈ [((0x0000 : Addr), 0x0000, 0x2000), (0x1FFF, 0x0000, 0x2000), (0x2000, 0x2000, 0x4000), (0x3FFF, 0x2000, 0x4000)] ++
          [(0x4000, 0x4000, 0x6000), (0x5FFF, 0x4000, 0x6000), (0x6000, 0x6000, 0x8000), (0x7FFF, 0x6000, 0x8000)] ++
          [(0xA000, 0xA000, 0xC000), (0xBFFF, 0xA000, 0xC000)], p.2.1 ≤ p.1.toNat ∧ p.1.toNat < p.2.2) := by decide +kernel

theorem witness_TimerAdvanceIsItsLoop :
    (0 : Nat) + 255 < 256 ∧ (256 : Nat) ≤ 255 + 1 ∧ (ready []).timer.enable = false ∧
      (let t : Timer := { (ready []).timer with enable := true, sel := 1, timaSub := 12 }
       t.enable = true ∧ t.timaSub + 3 < [1024, 16, 64, 256].getD t.sel.toNat 0 ∧ [1024, 16, 64, 256].getD t.sel.toNat 0 ≤ t.timaSub + 4) := by
  decide

theorem witness_PpuPositionAndTiming_and_OnePpuCycle :
    (∀ p ∈ [((0 : Byte), 0, PpuMode.oamScan), (0, 79, .oamScan), (0, 251, .transfer), (143, 455, .hblank), (153, 455, .vblank)],
      let s : State := { ready [] with ppu := { (ready []).ppu with ly := p.1, lineCyc := p.2.1, mode := p.2.2 } }
      s.ppu.ly.toNat < 154 ∧ s.ppu.lineCyc < 456 ∧ s.ppu.mode = modeAt s.ppu) ∧
    (ready []).ppu.ly = 0 ∧ (ready []).ppu.lineCyc = 0 ∧ (ready []).ppu.mode = .oamScan := by decide +kernel

theorem witness_BackgroundAndWindowPixels :
    (∀ p ∈ [(0, 0), (159, 143)], p.1 < 160 ∧ p.2 < 144) ∧ (painter 0x91 []).lcdc.getLsbD 1 = false ∧ (painter 0x91 []).lcdc.getLsbD 0 = true ∧
      (painter 0x90 []).lcdc.getLsbD 0 = false ∧
      (let p := { painter 0xF1 [] with wy := 0, wx := 87 }
       p.lcdc.getLsbD 5 = true ∧ p.wy.toNat ≤ 0 ∧ p.wx.toNat ≤ 80 + 7) := by decide +kernel

theorem witness_SpritePixels :
    (∀ p ∈ [(0, 0), (159, 143)], p.1 < 160 ∧ p.2 < 144) ∧ (painter 0x93 [⟨16, 8, 1, 0x00, 0⟩]).lcdc.getLsbD 1 = true := by decide +kernel

theorem witness_ButtonsRaiseTheJoypadLine :
    (ready []).joypad.btn.get .start = false ∧ (press .start (ready [])).joypad.btn.get .start = true ∧ (ready []).hostMoves = [] ∧
      (idleHost .stopped).hostMoves = [.release .a] :: [] := by decide +kernel

theorem witness_LoadChecksTheHeaderInOrder :
    0x150 ≤ (header 0xCE [] 1 0 0 0xE6).length ∧ ((header 0xCE [] 1 0 0 0xE6).drop 0x104).take 48 = Config.logo ∧
      headerChecksum (header 0xCE [] 1 0 0 0xE6) = (header 0xCE [] 1 0 0 0xE6).getD 0x14D 0 ∧
      ((header 0xCE [] 1 0 0 0xE6).getD 0x147 0).toNat ≤ 3 ∧
      (((header 0xCE [] 1 0 0 0xE6).getD 0x148 0).toNat ≤ 8 ∧ ((header 0xCE [] 1 0 0 0xE6).getD 0x149 0).toNat ≤ 5) ∧
      ¬ 0x150 ≤ ((header 0xCE [] 1 0 0 0xE6).take 0x14F).length ∧ ((header 0x00 [] 0 0 0 0xE7).drop 0x104).take 48 ≠ Config.logo ∧
      headerChecksum (header 0xCE [] 0 0 0 0xE6) ≠ (header 0xCE [] 0 0 0 0xE6).getD 0x14D 0 ∧
      ¬ ((header 0xCE [] 4 0 0 0xE3).getD 0x147 0).toNat ≤ 3 ∧
      headerChecksum (header 0xCE [] 4 0 0 0xE3) = (header 0xCE [] 4 0 0 0xE3).getD 0x14D 0 ∧
      ¬ (((header 0xCE [] 1 9 0 0xDD).getD 0x148 0).toNat ≤ 8 ∧ ((header 0xCE [] 1 9 0 0xDD).getD 0x149 0).toNat ≤ 5) ∧
      headerChecksum (header 0xCE [] 1 9 0 0xDD) = (header 0xCE [] 1 9 0 0xDD).getD 0x14D 0 := by decide +kernel

theorem witness_LoadResetsTheCore : ∃ s, load (header 0xCE [] 2 0 2 0xE3) Memory.empty blankFb = .ok s := by
  have h : verdict (header 0xCE [] 2 0 2 0xE3) = none := by decide +kernel
  unfold verdict at h
  unfold load
  cases hc : cartCheck (header 0xCE [] 2 0 2 0xE3) with
  | error r => rw [hc] at h; simp at h
  | ok c => exact ⟨_, rfl⟩

theorem fbShape_blank : fbShape blankFb :=
  ⟨List.length_replicate, fun _ h => by rw [List.eq_of_mem_replicate h]; exact List.length_replicate⟩

theorem witness_LoadedStateMeetsTheInvariant :
    ∃ s, load (header 0xCE [] 2 0 2 0xE3) Memory.empty blankFb = .ok s ∧ Memory.empty.wf ∧ fixedWithin Memory.empty ∧
      Cells.within Memory.empty.cartRam s.cart.ramSize ∧ fbShape blankFb := by
  obtain ⟨s, hs⟩ := witness_LoadResetsTheCore
  exact ⟨s, hs, by decide, by unfold fixedWithin; decide, by intro c h; simp [Memory.empty] at h, fbShape_blank⟩

/-- A state that meets the invariant: bytes in work RAM, and after a recorded fault a host's move to come. -/
theorem ready_inv : (ready [0x3C]).Inv := by
  refine ⟨by decide +kernel, by decide +kernel, by decide, by decide, by decide, by decide, ?_, fbShape_blank, by decide, by decide, by decide⟩
  exact (List.length_map ..).trans List.length_range

theorem witness_EveryStepKeepsTheInvariant : (ready [0x3C]).Inv ∧ ∃ t, step (ready [0x3C]) = .next t :=
  ⟨ready_inv, next_of_isNext (by decide +kernel)⟩

theorem witness_EnabledTicksAlwaysComplete :
    (hostTurn (ready [])).run = .running ∧ (hostTurn { ready [] with run := .halted }).run = .halted := by decide

theorem witness_NothingChangesTheCartridgeImage : ∃ t, step (ready [0x77]) = .next t := next_of_isNext (by decide +kernel)

theorem witness_RecordedFaultIsNeverCleared :
    let s : State := { ready [0x3C] with faultRec := .illegalOpcode 0xD3 0x0100, run := .locked, hostMoves := [[.press .a]] }
    s.Inv ∧ s.faultRec ≠ .none ∧ ∃ t, step s = .next t := by
  obtain ⟨h1, h2, h3, h4, h5, h6, h7, h8, h9, h10, -⟩ := ready_inv
  exact ⟨⟨h1, h2, h3, h4, h5, h6, h7, h8, h9, h10, by decide⟩, by decide, next_of_isNext (by decide +kernel)⟩

theorem witness_FramebufferIsOutputOnly :
    withoutFb (ready [0x3C]) = withoutFb { ready [0x3C] with ppu := { (ready [0x3C]).ppu with fb := [] } } ∧ (ready [0x3C]).ppu.fb ≠ [] ∧
      isNext (step (ready [0x3C])) = true := by decide +kernel

theorem witness_DecodingAnEncodingGivesItBack :
    ∀ i ∈ [Instr.jrE8 (-128), .jrE8 127, .ldHlSpE8 (-128), .addSpE8 127, .ldBcN16 0xFFFF, .stop 0xFF, .set7A], i.wellFormed = true := by
  decide +kernel

theorem witness_EveryByteSequenceHasOneReading :
    decode [0x10, 0xFF, 0x00] = .ok (.stop 0xFF, [0x00]) ∧ decode [0x18, 0x80] = .ok (.jrE8 (-128), []) := by decide +kernel

end Sys2Proof.Tests
end

section
/-! O33. What an instruction does to the bus part of the state is the stores of its list, done in order (spec/20_memory.md R105, R106). -/

namespace Sys2Proof.Machine

open Sys2Proof.Claims

/-! ## The register updates leave the bus part of the state alone -/

@[simp] theorem State.setReg_bus (s : State) (r : Reg8) (v : Byte) : (s.setReg r v).bus = s.bus := by cases r <;> rfl
@[simp] theorem State.setFlags_bus (s : State) (f : Flags) : (s.setFlags f).bus = s.bus := rfl
@[simp] theorem State.setSp_bus (s : State) (v : Word) : (s.setSp v).bus = s.bus := rfl
@[simp] theorem State.setPc_bus (s : State) (v : Addr) : (s.setPc v).bus = s.bus := rfl
@[simp] theorem State.setPair_bus (s : State) (p : Pair) (v : Word) : (s.setPair p v).bus = s.bus := by cases p <;> rfl
@[simp] theorem State.setStackPair_bus (s : State) (p : StackPair) (v : Word) : (s.setStackPair p v).bus = s.bus := by
  cases p <;> rfl
@[simp] theorem State.took_bus (s : State) (n : Nat) : (s.took n).bus = s.bus := rfl
@[simp] theorem popped_bus (s : State) : (popped s).bus = s.bus := rfl

/-! ## The shared operations that store nothing -/

@[simp] theorem ldRegReg_bus (dst src : Reg8) (s : State) : (ldRegReg dst src s).bus = s.bus := by simp [ldRegReg]
@[simp] theorem ldRegAtHl_bus (dst : Reg8) (s : State) : (ldRegAtHl dst s).bus = s.bus := by simp [ldRegAtHl]
@[simp] theorem ldRegN8_bus (dst : Reg8) (n : Byte) (s : State) : (ldRegN8 dst n s).bus = s.bus := by simp [ldRegN8]
@[simp] theorem ldAFrom_bus (a : Addr) (k : Nat) (s : State) : (ldAFrom a k s).bus = s.bus := by simp [ldAFrom]
@[simp] theorem ldAFromHlStep_bus (d : Word) (s : State) : (ldAFromHlStep d s).bus = s.bus := by simp [ldAFromHlStep]
@[simp] theorem ldPairN16_bus (p : Pair) (n : Word) (s : State) : (ldPairN16 p n s).bus = s.bus := by simp [ldPairN16]
@[simp] theorem ldHlSpPlus_bus (u : Byte) (s : State) : (ldHlSpPlus u s).bus = s.bus := by simp [ldHlSpPlus]
@[simp] theorem popPair_bus (p : StackPair) (s : State) : (popPair p s).bus = s.bus := by simp [popPair]
@[simp] theorem aluR8_bus (op : AluOp) (t : R8) (s : State) : (aluR8 op t s).bus = s.bus := by simp [aluR8, aluWith]
@[simp] theorem aluN8_bus (op : AluOp) (n : Byte) (s : State) : (aluN8 op n s).bus = s.bus := by simp [aluN8, aluWith]
@[simp] theorem incPair_bus (p : Pair) (s : State) : (incPair p s).bus = s.bus := by simp [incPair]
@[simp] theorem decPair_bus (p : Pair) (s : State) : (decPair p s).bus = s.bus := by simp [decPair]
@[simp] theorem addHl_bus (p : Pair) (s : State) : (addHl p s).bus = s.bus := by simp [addHl]
@[simp] theorem addSp_bus (u : Byte) (s : State) : (addSp u s).bus = s.bus := by simp [addSp]
@[simp] theorem jumpTo_bus (a : Addr) (k : Nat) (s : State) : (jumpTo a k s).bus = s.bus := by simp [jumpTo]
@[simp] theorem jpCond_bus (cc : Cond) (a : Addr) (s : State) : (jpCond cc a s).bus = s.bus := by
  unfold jpCond; split <;> simp
@[simp] theorem jrCond_bus (cc : Cond) (u : Byte) (s : State) : (jrCond cc u s).bus = s.bus := by
  unfold jrCond; split <;> simp
@[simp] theorem retIn_bus (k : Nat) (s : State) : (retIn k s).bus = s.bus := by simp [retIn]
@[simp] theorem retCond_bus (cc : Cond) (s : State) : (retCond cc s).bus = s.bus := by
  unfold retCond; split <;> simp
@[simp] theorem returnFromInt_bus (s : State) : (returnFromInt s).bus = s.bus := rfl
@[simp] theorem raiseIllegal_bus (op : Byte) (s : State) : (raiseIllegal op s).bus = s.bus := rfl
@[simp] theorem rotA_bus (op : RotOp) (s : State) : (rotA op s).bus = s.bus := by simp [rotA]
@[simp] theorem bitR8_bus (b : Fin 8) (t : R8) (s : State) : (bitR8 b t s).bus = s.bus := by simp [bitR8]

/-! ## Lists of stores -/

/-- The state after the stores of a list, done in order, as the statement writes it. -/
def stored (s : State) (l : List (Addr × Byte)) : State := l.foldl (fun u p => busWrite u p.1 p.2) s

@[simp] theorem stored_nil (s : State) : stored s [] = s := rfl

@[simp] theorem stored_cons (s : State) (p : Addr × Byte) (l : List (Addr × Byte)) :
    stored s (p :: l) = stored (busWrite s p.1 p.2) l := rfl

/-- A byte of storage that no store of the list names reads as before, when each store is to a byte of storage (R106). -/
theorem busRead_stored_other (l : List (Addr × Byte)) {s : State} (hm : s.mem.wf)
    (hc : ∀ p ∈ l, ∃ r k, resolve s.cart p.1 = .cell r k) {a : Addr} (ha : ∀ p ∈ l, resolve s.cart a ≠ resolve s.cart p.1) :
    busRead (stored s l) a = busRead s a := by
  induction l generalizing s with
  | nil => rfl
  | cons p l ih =>
    obtain ⟨⟨r, k, hp⟩, hl⟩ := List.forall_mem_cons.1 hc
    obtain ⟨hap, hal⟩ := List.forall_mem_cons.1 ha
    have hcart : (busWrite s p.1 p.2).cart = s.cart := by rw [busWrite_of_cell hp]
    rw [stored_cons, ih (busWrite_wf hm ..) (by rwa [hcart]) (by rwa [hcart])]
    exact busRead_busWrite_other hm hp (hp ▸ hap) p.2

/-! ## The shared operations that store -/

/-- The stores of a write to an entry of r8: none to a register, one at HL. -/
def r8Stores (s : State) (t : R8) (v : Byte) : List (Addr × Byte) :=
  match t with
  | .reg _ => []
  | .atHl => hlStore s v

@[simp] theorem r8Stores_reg (s : State) (r : Reg8) (v : Byte) : r8Stores s (.reg r) v = [] := rfl

@[simp] theorem writeR8_bus (s : State) (t : R8) (v : Byte) : (writeR8 s t v).bus = (stored s (r8Stores s t v)).bus := by
  cases t with
  | reg r => exact State.setReg_bus s r v
  | atHl => rfl

@[simp] theorem incResult_value (v : Byte) (f : Flags) : (incResult v f).1 = v + 1 := by
  simp [incResult, trunc8, BitVec.ofInt_add]

@[simp] theorem decResult_value (v : Byte) (f : Flags) : (decResult v f).1 = v - 1 := by
  simp [decResult, trunc8, sub_eq_add_neg, BitVec.ofInt_add]

@[simp] theorem incR8_bus (t : R8) (s : State) : (incR8 t s).bus = (stored s (r8Stores s t (readR8 s t + 1))).bus := by
  simp [incR8]

@[simp] theorem decR8_bus (t : R8) (s : State) : (decR8 t s).bus = (stored s (r8Stores s t (readR8 s t - 1))).bus := by
  simp [decR8]

@[simp] theorem rotR8_bus (op : RotOp) (t : R8) (s : State) :
    (rotR8 op t s).bus = (stored s (r8Stores s t (rotValue op (readR8 s t) s.regs.f.c).1)).bus := by
  simp [rotR8, rotResult]

@[simp] theorem resR8_bus (b : Fin 8) (t : R8) (s : State) :
    (resR8 b t s).bus = (stored s (r8Stores s t (readR8 s t &&& ~~~((1 : Byte) <<< b.val)))).bus := by
  simp [resR8]

@[simp] theorem setR8_bus (b : Fin 8) (t : R8) (s : State) :
    (setR8 b t s).bus = (stored s (r8Stores s t (readR8 s t ||| ((1 : Byte) <<< b.val)))).bus := by
  simp [setR8]

theorem ldAtHlReg_bus (src : Reg8) (s : State) : (ldAtHlReg src s).bus = (stored s (hlStore s (s.reg src))).bus := rfl

theorem ldAInto_bus (a : Addr) (k : Nat) (s : State) : (ldAInto a k s).bus = (stored s [(a, s.regs.a)]).bus := rfl

theorem ldAIntoHlStep_bus (d : Word) (s : State) : (ldAIntoHlStep d s).bus = (stored s (hlStore s s.regs.a)).bus := by
  simp [ldAIntoHlStep, hlStore]

/-- A push stores at the fallen SP, which its own stores do not see (spec/40_loads.md R340). -/
theorem push16_bus (s : State) (v : Word) : (push16 s v).bus = (stored s (pushStores s v)).bus := by
  have hsp : s.regs.sp - 2 + 1 = s.regs.sp - 1 := by bv_omega
  unfold push16 busWrite16
  rw [hsp]
  exact busWrite_of_bus (busWrite_of_bus (State.setSp_bus ..) _ _) _ _

theorem pushPair_bus (p : StackPair) (s : State) : (pushPair p s).bus = (stored s (pushStores s (s.stackPair p))).bus :=
  push16_bus ..

theorem callTo_bus (a : Addr) (k : Nat) (s : State) : (callTo a k s).bus = (stored s (pushStores s s.regs.pc)).bus :=
  push16_bus ..

theorem holds_eq_condHolds (f : Flags) (cc : Cond) : holds f cc = condHolds f cc := by cases cc <;> rfl

theorem callCond_bus (cc : Cond) (a : Addr) (s : State) :
    (callCond cc a s).bus = (stored s (if holds s.regs.f cc then pushStores s s.regs.pc else [])).bus := by
  rw [holds_eq_condHolds]
  unfold callCond
  split
  · exact callTo_bus ..
  · rfl

/-! ## Every instruction -/

/-- The outcome is a next state whose bus part is the one after the stores of the list. -/
def StoresOnly (r : Result) (s : State) (l : List (Addr × Byte)) : Prop := ∃ t, r = .next t ∧ t.bus = (stored s l).bus

/-- HALT stores nothing, with the halt repeat or without it. -/
theorem execHalt_storesOnly (s : State) : StoresOnly (execHalt s) s [] := by
  unfold execHalt
  split <;> exact ⟨_, rfl, rfl⟩

/-- STOP's only effect on the bus part is the reset of the divider (spec/45_system.md R612). -/
theorem execStop_bus {g : Byte} {s t : State} (h : exec (.stop g) s = .next t) : t.bus = (resetDiv s).bus := by
  cases h
  rfl

/-- Every instruction but STOP acts on the bus part by its stores alone: by the constructors, those that store first, by the shared operation each calls. -/
theorem exec_storesOnly (i : Instr) (s : State) (hstop : ∀ g, i ≠ .stop g) : StoresOnly (exec i s) s (stores i s) := by
  cases i
  case stop g => exact absurd rfl (hstop g)
  case halt => exact execHalt_storesOnly s
  case ldAtHlB | ldAtHlC | ldAtHlD | ldAtHlE | ldAtHlH | ldAtHlL | ldAtHlA => exact ⟨_, rfl, ldAtHlReg_bus _ s⟩
  case ldAtHlN8 | ldAtA16Sp => exact ⟨_, rfl, rfl⟩
  case ldAtHlIncA | ldAtHlDecA => exact ⟨_, rfl, ldAIntoHlStep_bus _ s⟩
  case ldAtBcA | ldAtDeA | ldAtA16A | ldhAtA8A | ldAtCA => exact ⟨_, rfl, ldAInto_bus _ _ s⟩
  case pushBc | pushDe | pushHl | pushAf => exact ⟨_, rfl, pushPair_bus _ s⟩
  case callA16 | rst00 | rst08 | rst10 | rst18 | rst20 | rst28 | rst30 | rst38 => exact ⟨_, rfl, callTo_bus _ _ s⟩
  case callNzA16 | callZA16 | callNcA16 | callCA16 => exact ⟨_, rfl, callCond_bus _ _ s⟩
  case incAtHl => exact ⟨_, rfl, incR8_bus .atHl s⟩
  case decAtHl => exact ⟨_, rfl, decR8_bus .atHl s⟩
  case rlcAtHl | rrcAtHl | rlAtHl | rrAtHl | slaAtHl | sraAtHl | swapAtHl | srlAtHl => exact ⟨_, rfl, rotR8_bus _ .atHl s⟩
  case res0AtHl | res1AtHl | res2AtHl | res3AtHl | res4AtHl | res5AtHl | res6AtHl | res7AtHl =>
    exact ⟨_, rfl, resR8_bus _ .atHl s⟩
  case set0AtHl | set1AtHl | set2AtHl | set3AtHl | set4AtHl | set5AtHl | set6AtHl | set7AtHl =>
    exact ⟨_, rfl, setR8_bus _ .atHl s⟩
  case di | ei => exact ⟨_, rfl, rfl⟩
  all_goals
    refine ⟨_, rfl, ?_⟩
    change _ = s.bus
    simp

/-! ## The divider -/

/-- The divider register answers at 0xFF04 alone (spec/20_memory.md R130). -/
theorem resolve_div {c : Cart} {a : Addr} (h : resolve c a = .io .div) : a = 0xFF04 := by
  have hreg : ∀ k, ioRegAt k = some .div → k = 4 := by
    intro k hk
    unfold ioRegAt at hk
    split at hk <;> simp_all
  simp only [resolve] at h
  split_ifs at h
  · split at h <;> simp at h
  · split at h
    · rename_i r hr
      obtain rfl : r = .div := by simpa using h
      have hoff := hreg _ hr
      exact BitVec.eq_of_toNat_eq (show a.toNat = 0xFF04 by omega)
    · simp at h

/-- The reset of the divider changes what is read at 0xFF04 alone (spec/60_exceptions.md R761). -/
theorem busRead_resetDiv_other (s : State) {a : Addr} (ha : a ≠ 0xFF04) : busRead (resetDiv s) a = busRead s a := by
  unfold busRead
  rw [resetDiv_cart, resetDiv_mem]
  split
  case h_3 r hr =>
    have hdiv : r ≠ .div := by rintro rfl; exact ha (resolve_div hr)
    cases r
    case div => exact absurd rfl hdiv
    all_goals rfl
  all_goals rfl

end Sys2Proof.Machine

open Sys2Proof.Machine Sys2Proof.Claims

/-- Settles O33: but for STOP the bus part after an instruction is the one after its stores (`exec_storesOnly`), and STOP, which stores nothing, resets the divider alone. -/
theorem everyInstructionChangesOnlyTheBytesItStores : Obligations.EveryInstructionChangesOnlyTheBytesItStores := by
  unfold Obligations.EveryInstructionChangesOnlyTheBytesItStores
  intro i s t h
  by_cases hstop : ∃ g, i = .stop g
  · obtain ⟨g, rfl⟩ := hstop
    have hbus := execStop_bus h
    obtain ⟨hmem, hcart, -, hppu, hjoypad, hifl, hie⟩ := State.bus_eq hbus
    refine ⟨⟨hmem, hcart, hie, hifl, hppu, hjoypad, fun hne => absurd rfl (hne g)⟩, fun _ _ a _ ha => ?_⟩
    have hdiv : a ≠ 0xFF04 := ha.resolve_left fun hne => hne g rfl
    rw [busRead_of_bus hbus, busRead_resetDiv_other s hdiv]
  · obtain ⟨u, hu, hbus⟩ := exec_storesOnly i s (not_exists.1 hstop)
    obtain rfl : u = t := by simpa [h] using hu.symm
    obtain ⟨hmem, hcart, htimer, hppu, hjoypad, hifl, hie⟩ := State.bus_eq hbus
    refine ⟨⟨hmem, hcart, hie, hifl, hppu, hjoypad, fun _ => htimer⟩, fun hwf hcells a ha _ => ?_⟩
    rw [busRead_of_bus hbus, busRead_stored_other _ hwf hcells ha]

end

section
/-! O55. The framebuffer is output only (spec/10_state.md R49): every operation of a tick commutes with erasing the framebuffer, but the renderer, which writes nothing else. -/

namespace Sys2Proof.Machine

open Sys2Proof.Claims

/-! ## What erasing the framebuffer leaves unchanged -/

@[simp] theorem withoutFb_regs (s : State) : (withoutFb s).regs = s.regs := rfl
@[simp] theorem withoutFb_ime (s : State) : (withoutFb s).ime = s.ime := rfl
@[simp] theorem withoutFb_imePending (s : State) : (withoutFb s).imePending = s.imePending := rfl
@[simp] theorem withoutFb_run (s : State) : (withoutFb s).run = s.run := rfl
@[simp] theorem withoutFb_haltRepeat (s : State) : (withoutFb s).haltRepeat = s.haltRepeat := rfl
@[simp] theorem withoutFb_cart (s : State) : (withoutFb s).cart = s.cart := rfl
@[simp] theorem withoutFb_mem (s : State) : (withoutFb s).mem = s.mem := rfl
@[simp] theorem withoutFb_timer (s : State) : (withoutFb s).timer = s.timer := rfl
@[simp] theorem withoutFb_ppu (s : State) : (withoutFb s).ppu = { s.ppu with fb := [] } := rfl
@[simp] theorem withoutFb_joypad (s : State) : (withoutFb s).joypad = s.joypad := rfl
@[simp] theorem withoutFb_cycles (s : State) : (withoutFb s).cycles = s.cycles := rfl
@[simp] theorem withoutFb_hostMoves (s : State) : (withoutFb s).hostMoves = s.hostMoves := rfl
@[simp] theorem withoutFb_reg (s : State) (r : Reg8) : (withoutFb s).reg r = s.reg r := by cases r <;> rfl
@[simp] theorem withoutFb_pair (s : State) (p : Pair) : (withoutFb s).pair p = s.pair p := by cases p <;> rfl
@[simp] theorem withoutFb_hl (s : State) : (withoutFb s).hl = s.hl := rfl
@[simp] theorem withoutFb_stackPair (s : State) (p : StackPair) : (withoutFb s).stackPair p = s.stackPair p := by
  cases p <;> rfl
@[simp] theorem withoutFb_pending (s : State) : (withoutFb s).pending = s.pending := rfl

/-! ## Register updates, interrupt lines and the fetch -/

@[simp] theorem setReg_withoutFb (s : State) (r : Reg8) (v : Byte) : (withoutFb s).setReg r v = withoutFb (s.setReg r v) := by
  cases r <;> rfl
@[simp] theorem setFlags_withoutFb (s : State) (f : Flags) : (withoutFb s).setFlags f = withoutFb (s.setFlags f) := rfl
@[simp] theorem setSp_withoutFb (s : State) (v : Word) : (withoutFb s).setSp v = withoutFb (s.setSp v) := rfl
@[simp] theorem setPc_withoutFb (s : State) (v : Addr) : (withoutFb s).setPc v = withoutFb (s.setPc v) := rfl
@[simp] theorem setPair_withoutFb (s : State) (p : Pair) (v : Word) : (withoutFb s).setPair p v = withoutFb (s.setPair p v) := by
  cases p <;> rfl
@[simp] theorem setStackPair_withoutFb (s : State) (p : StackPair) (v : Word) :
    (withoutFb s).setStackPair p v = withoutFb (s.setStackPair p v) := by
  cases p <;> rfl
@[simp] theorem took_withoutFb (s : State) (n : Nat) : (withoutFb s).took n = withoutFb (s.took n) := rfl
@[simp] theorem popped_withoutFb (s : State) : popped (withoutFb s) = withoutFb (popped s) := rfl
@[simp] theorem raiseInt_withoutFb (line : Line) (s : State) : raiseInt line (withoutFb s) = withoutFb (raiseInt line s) := rfl
@[simp] theorem raiseIllegal_withoutFb (op : Byte) (s : State) :
    raiseIllegal op (withoutFb s) = withoutFb (raiseIllegal op s) := rfl

@[simp] theorem wake_withoutFb (s : State) : wake (withoutFb s) = withoutFb (wake s) := by
  unfold wake
  rw [withoutFb_run]
  split <;> rfl

@[simp] theorem applyPending_withoutFb (s : State) : applyPending (withoutFb s) = withoutFb (applyPending s) := by
  unfold applyPending
  rw [withoutFb_imePending]
  split <;> rfl

@[simp] theorem fetched_withoutFb (s : State) : fetched (withoutFb s) = withoutFb (fetched s) := by
  unfold fetched
  rw [withoutFb_haltRepeat]
  split <;> rfl

/-! ## The bus -/

/-- No bus address is answered by the framebuffer. -/
@[simp] theorem busRead_withoutFb (s : State) (a : Addr) : busRead (withoutFb s) a = busRead s a := by
  unfold busRead
  rw [withoutFb_cart]
  split
  case h_3 r _ => cases r <;> rfl
  all_goals rfl

theorem oamDmaFrom_withoutFb (base : Addr) (i k : Nat) (s : State) :
    oamDmaFrom base i k (withoutFb s) = withoutFb (oamDmaFrom base i k s) := by
  induction k generalizing i s with
  | zero => rfl
  | succ k ih =>
    rw [oamDmaFrom, oamDmaFrom, ← ih, busRead_withoutFb]
    rfl

theorem ioWrite_withoutFb (s : State) (r : IoReg) (v : Byte) : ioWrite (withoutFb s) r v = withoutFb (ioWrite s r v) := by
  cases r
  case dma =>
    show oamDma v _ = withoutFb (oamDma v s)
    rw [oamDma, oamDma, ← oamDmaFrom_withoutFb]
    rfl
  all_goals rfl

@[simp] theorem busWrite_withoutFb (s : State) (a : Addr) (v : Byte) : busWrite (withoutFb s) a v = withoutFb (busWrite s a v) := by
  unfold busWrite
  rw [withoutFb_cart]
  split
  case h_3 => exact ioWrite_withoutFb ..
  all_goals rfl

@[simp] theorem busWrite16_withoutFb (s : State) (a : Addr) (v : Word) :
    busWrite16 (withoutFb s) a v = withoutFb (busWrite16 s a v) := by
  simp [busWrite16]

@[simp] theorem push16_withoutFb (s : State) (v : Word) : push16 (withoutFb s) v = withoutFb (push16 s v) := by
  simp [push16]

@[simp] theorem popValue_withoutFb (s : State) : popValue (withoutFb s) = popValue s := by
  simp [popValue, busRead16]

/-! ## The shared operations of the instructions -/

@[simp] theorem readR8_withoutFb (s : State) (t : R8) : readR8 (withoutFb s) t = readR8 s t := by
  cases t <;> simp [readR8]

@[simp] theorem writeR8_withoutFb (s : State) (t : R8) (v : Byte) : writeR8 (withoutFb s) t v = withoutFb (writeR8 s t v) := by
  cases t <;> simp [writeR8]

@[simp] theorem ldRegReg_withoutFb (dst src : Reg8) (s : State) :
    ldRegReg dst src (withoutFb s) = withoutFb (ldRegReg dst src s) := by simp [ldRegReg]
@[simp] theorem ldRegAtHl_withoutFb (dst : Reg8) (s : State) : ldRegAtHl dst (withoutFb s) = withoutFb (ldRegAtHl dst s) := by
  simp [ldRegAtHl]
@[simp] theorem ldAtHlReg_withoutFb (src : Reg8) (s : State) : ldAtHlReg src (withoutFb s) = withoutFb (ldAtHlReg src s) := by
  simp [ldAtHlReg]
@[simp] theorem ldRegN8_withoutFb (dst : Reg8) (n : Byte) (s : State) :
    ldRegN8 dst n (withoutFb s) = withoutFb (ldRegN8 dst n s) := by simp [ldRegN8]
@[simp] theorem ldAFrom_withoutFb (a : Addr) (k : Nat) (s : State) : ldAFrom a k (withoutFb s) = withoutFb (ldAFrom a k s) := by
  simp [ldAFrom]
@[simp] theorem ldAInto_withoutFb (a : Addr) (k : Nat) (s : State) : ldAInto a k (withoutFb s) = withoutFb (ldAInto a k s) := by
  simp [ldAInto]
@[simp] theorem ldAFromHlStep_withoutFb (d : Word) (s : State) :
    ldAFromHlStep d (withoutFb s) = withoutFb (ldAFromHlStep d s) := by simp [ldAFromHlStep]
@[simp] theorem ldAIntoHlStep_withoutFb (d : Word) (s : State) :
    ldAIntoHlStep d (withoutFb s) = withoutFb (ldAIntoHlStep d s) := by simp [ldAIntoHlStep]
@[simp] theorem ldPairN16_withoutFb (p : Pair) (n : Word) (s : State) :
    ldPairN16 p n (withoutFb s) = withoutFb (ldPairN16 p n s) := by simp [ldPairN16]
@[simp] theorem ldHlSpPlus_withoutFb (u : Byte) (s : State) : ldHlSpPlus u (withoutFb s) = withoutFb (ldHlSpPlus u s) := by
  simp [ldHlSpPlus]
@[simp] theorem pushPair_withoutFb (p : StackPair) (s : State) : pushPair p (withoutFb s) = withoutFb (pushPair p s) := by
  simp [pushPair]
@[simp] theorem popPair_withoutFb (p : StackPair) (s : State) : popPair p (withoutFb s) = withoutFb (popPair p s) := by
  simp [popPair]
@[simp] theorem aluWith_withoutFb (op : AluOp) (v : Byte) (k : Nat) (s : State) :
    aluWith op v k (withoutFb s) = withoutFb (aluWith op v k s) := by simp [aluWith]
@[simp] theorem aluR8_withoutFb (op : AluOp) (t : R8) (s : State) : aluR8 op t (withoutFb s) = withoutFb (aluR8 op t s) := by
  simp [aluR8]
@[simp] theorem aluN8_withoutFb (op : AluOp) (n : Byte) (s : State) : aluN8 op n (withoutFb s) = withoutFb (aluN8 op n s) := by
  simp [aluN8]
@[simp] theorem incR8_withoutFb (t : R8) (s : State) : incR8 t (withoutFb s) = withoutFb (incR8 t s) := by simp [incR8]
@[simp] theorem decR8_withoutFb (t : R8) (s : State) : decR8 t (withoutFb s) = withoutFb (decR8 t s) := by simp [decR8]
@[simp] theorem incPair_withoutFb (p : Pair) (s : State) : incPair p (withoutFb s) = withoutFb (incPair p s) := by simp [incPair]
@[simp] theorem decPair_withoutFb (p : Pair) (s : State) : decPair p (withoutFb s) = withoutFb (decPair p s) := by simp [decPair]
@[simp] theorem addHl_withoutFb (p : Pair) (s : State) : addHl p (withoutFb s) = withoutFb (addHl p s) := by simp [addHl]
@[simp] theorem addSp_withoutFb (u : Byte) (s : State) : addSp u (withoutFb s) = withoutFb (addSp u s) := by simp [addSp]
@[simp] theorem jumpTo_withoutFb (a : Addr) (k : Nat) (s : State) : jumpTo a k (withoutFb s) = withoutFb (jumpTo a k s) := by
  simp [jumpTo]
@[simp] theorem callTo_withoutFb (a : Addr) (k : Nat) (s : State) : callTo a k (withoutFb s) = withoutFb (callTo a k s) := by
  simp [callTo]
@[simp] theorem retIn_withoutFb (k : Nat) (s : State) : retIn k (withoutFb s) = withoutFb (retIn k s) := by simp [retIn]

@[simp] theorem jpCond_withoutFb (cc : Cond) (a : Addr) (s : State) : jpCond cc a (withoutFb s) = withoutFb (jpCond cc a s) := by
  simp [jpCond, apply_ite withoutFb]
@[simp] theorem jrCond_withoutFb (cc : Cond) (u : Byte) (s : State) : jrCond cc u (withoutFb s) = withoutFb (jrCond cc u s) := by
  simp [jrCond, apply_ite withoutFb]
@[simp] theorem callCond_withoutFb (cc : Cond) (a : Addr) (s : State) :
    callCond cc a (withoutFb s) = withoutFb (callCond cc a s) := by simp [callCond, apply_ite withoutFb]
@[simp] theorem retCond_withoutFb (cc : Cond) (s : State) : retCond cc (withoutFb s) = withoutFb (retCond cc s) := by
  simp [retCond, apply_ite withoutFb]

@[simp] theorem returnFromInt_withoutFb (s : State) : returnFromInt (withoutFb s) = withoutFb (returnFromInt s) := by
  unfold returnFromInt
  rw [popValue_withoutFb]
  rfl

@[simp] theorem rotA_withoutFb (op : RotOp) (s : State) : rotA op (withoutFb s) = withoutFb (rotA op s) := by simp [rotA]
@[simp] theorem rotR8_withoutFb (op : RotOp) (t : R8) (s : State) : rotR8 op t (withoutFb s) = withoutFb (rotR8 op t s) := by
  simp [rotR8]
@[simp] theorem bitR8_withoutFb (b : Fin 8) (t : R8) (s : State) : bitR8 b t (withoutFb s) = withoutFb (bitR8 b t s) := by
  simp [bitR8]
@[simp] theorem resR8_withoutFb (b : Fin 8) (t : R8) (s : State) : resR8 b t (withoutFb s) = withoutFb (resR8 b t s) := by
  simp [resR8]
@[simp] theorem setR8_withoutFb (b : Fin 8) (t : R8) (s : State) : setR8 b t (withoutFb s) = withoutFb (setR8 b t s) := by
  simp [setR8]

/-! ## Every instruction and its fetch -/

/-- An outcome without the framebuffer of its next state. -/
def resultWithoutFb (r : Result) : Result :=
  match r with
  | .next s => .next (withoutFb s)
  | .fault f => .fault f
  | .refused f => .refused f

theorem execHalt_withoutFb (s : State) : execHalt (withoutFb s) = resultWithoutFb (execHalt s) := by
  unfold execHalt
  rw [withoutFb_ime, withoutFb_pending]
  split <;> rfl

/-- No instruction reads or writes the framebuffer: by the constructors, through the shared operation each calls. -/
theorem exec_withoutFb (i : Instr) (s : State) : exec i (withoutFb s) = resultWithoutFb (exec i s) := by
  cases i
  case halt => exact execHalt_withoutFb s
  case stop | di | ei => rfl
  all_goals
    refine congrArg Host.Outcome.next (?_ : _ = withoutFb _)
    simp

@[simp] theorem fetchByte_withoutFb (s : State) : fetchByte (withoutFb s) = fetchByte s := by simp [fetchByte]

theorem fetchInstr_withoutFb (s : State) : fetchInstr (withoutFb s) = ((fetchInstr s).1, withoutFb (fetchInstr s).2) := by
  have haddr : { withoutFb s with opAddr := (withoutFb s).regs.pc } = withoutFb { s with opAddr := s.regs.pc } := rfl
  simp only [fetchInstr, haddr, fetchByte_withoutFb, fetched_withoutFb]
  split <;> rfl

theorem dispatchStart_withoutFb (s : State) :
    dispatchStart (withoutFb s) = ((dispatchStart s).1, withoutFb (dispatchStart s).2) := by
  simp [dispatchStart, fetchInstr_withoutFb]

/-! ## The poll and the timer -/

@[simp] theorem dispatchInt_withoutFb (line : Line) (s : State) : dispatchInt line (withoutFb s) = withoutFb (dispatchInt line s) := by
  show wake ((push16 (withoutFb { acknowledge line s with ime := false }) s.regs.pc).setPc line.vector) = _
  rw [push16_withoutFb, setPc_withoutFb, wake_withoutFb]
  rfl

@[simp] theorem poll_withoutFb (s : State) : poll (withoutFb s) = withoutFb (poll s) := by
  simp only [poll, withoutFb_pending, withoutFb_ime, withoutFb_cycles, wake_withoutFb, ← apply_ite withoutFb]
  split
  · rw [dispatchInt_withoutFb, took_withoutFb]
  · rfl

theorem timaIncrement_withoutFb (s : State) : timaIncrement (withoutFb s) = withoutFb (timaIncrement s) := by
  unfold timaIncrement
  rw [withoutFb_timer]
  split <;> rfl

theorem timaIncrements_withoutFb (k : Nat) (s : State) : timaIncrements k (withoutFb s) = withoutFb (timaIncrements k s) := by
  induction k generalizing s with
  | zero => rfl
  | succ k ih => rw [timaIncrements, timaIncrements, timaIncrement_withoutFb, ih]

theorem timerAdvance_withoutFb (n : Nat) (s : State) : timerAdvance n (withoutFb s) = withoutFb (timerAdvance n s) := by
  have hdiv : divAdvance n (withoutFb s) = withoutFb (divAdvance n s) := rfl
  unfold timerAdvance timaAdvance
  rw [hdiv, withoutFb_timer]
  split
  · rw [← timaIncrements_withoutFb]
    rfl
  · rfl

/-! ## The PPU, which alone writes the framebuffer -/

theorem lycCheck_withoutFb (s : State) : lycCheck (withoutFb s) = withoutFb (lycCheck s) := by
  unfold lycCheck
  rw [withoutFb_ppu]
  split <;> rfl

theorem lineChange_withoutFb (s : State) : lineChange (withoutFb s) = withoutFb (lineChange s) := by
  unfold lineChange
  rw [← lycCheck_withoutFb, withoutFb_ppu, apply_ite withoutFb]
  rfl

theorem ppuCount_withoutFb (s : State) : ppuCount (withoutFb s) = withoutFb (ppuCount s) := by
  unfold ppuCount
  rw [withoutFb_ppu]
  split
  · rw [← lineChange_withoutFb]
    rfl
  · rfl

/-- The entry actions of a mode write the framebuffer at most, and what else they do does not depend on it (R822, R841). -/
theorem modeEntry_sameButFb (m : PpuMode) (s : State) : withoutFb (modeEntry m (withoutFb s)) = withoutFb (modeEntry m s) := by
  cases m
  case hblank =>
    simp only [modeEntry, modeInt_eq]
    rw [withoutFb_ppu]
    split <;> rfl
  all_goals rfl

theorem ppuMode_sameButFb (s : State) : withoutFb (ppuMode (withoutFb s)) = withoutFb (ppuMode s) := by
  unfold ppuMode
  rw [withoutFb_ppu]
  dsimp only
  split
  · rfl
  · exact modeEntry_sameButFb _ { s with ppu := { s.ppu with mode := modeOf s.ppu.ly s.ppu.lineCyc } }

theorem ppuCycle_sameButFb (s : State) : withoutFb (ppuCycle (withoutFb s)) = withoutFb (ppuCycle s) := by
  rw [ppuCycle, ppuCount_withoutFb]
  exact ppuMode_sameButFb (ppuCount s)

theorem ppuAdvance_sameButFb (n : Nat) (s : State) : withoutFb (ppuAdvance n (withoutFb s)) = withoutFb (ppuAdvance n s) := by
  induction n generalizing s with
  | zero => rfl
  | succ n ih =>
    calc withoutFb (ppuAdvance n (ppuCycle (withoutFb s)))
        = withoutFb (ppuAdvance n (withoutFb (ppuCycle (withoutFb s)))) := (ih _).symm
      _ = withoutFb (ppuAdvance n (withoutFb (ppuCycle s))) := by rw [ppuCycle_sameButFb]
      _ = withoutFb (ppuAdvance n (ppuCycle s)) := ih _

/-! ## The host's moves and the step -/

theorem leaveStop_withoutFb (s : State) : leaveStop (withoutFb s) = withoutFb (leaveStop s) := by
  unfold leaveStop
  rw [withoutFb_run]
  split <;> rfl

theorem press_withoutFb (k : Button) (s : State) : press k (withoutFb s) = withoutFb (press k s) := by
  unfold press
  rw [withoutFb_joypad]
  split
  · rfl
  · exact leaveStop_withoutFb (raiseInt .joypad (s.setBtn k true))

theorem hostMove_withoutFb (s : State) (h : HostMove) : hostMove (withoutFb s) h = withoutFb (hostMove s h) := by
  cases h with
  | press k => exact press_withoutFb k s
  | release k => rfl

theorem hostTurn_withoutFb (s : State) : hostTurn (withoutFb s) = withoutFb (hostTurn s) := by
  unfold hostTurn
  rw [withoutFb_hostMoves]
  split
  · rfl
  · rename_i batch rest _
    exact List.foldl_hom withoutFb (init := { s with hostMoves := rest }) hostMove_withoutFb

theorem finishTick_sameButFb (s : State) : withoutFb (finishTick (withoutFb s)) = withoutFb (finishTick s) := by
  simp only [finishTick, withoutFb_run, poll_withoutFb]
  split
  · rfl
  · simp only [devicesAdvance, withoutFb_cycles, ← timerAdvance_withoutFb, ppuAdvance_sameButFb]

theorem finish_sameButFb (r : Result) : resultWithoutFb (finish (resultWithoutFb r)) = resultWithoutFb (finish r) := by
  cases r with
  | next s => exact congrArg Host.Outcome.next (finishTick_sameButFb s)
  | fault | refused => rfl

theorem noTick_sameButFb (why : Fault) (s u : State) :
    resultWithoutFb (noTick why (withoutFb s) (withoutFb u)) = resultWithoutFb (noTick why s u) := by
  unfold noTick
  rw [withoutFb_hostMoves]
  split <;> rfl

theorem step_sameButFb (s : State) : resultWithoutFb (step (withoutFb s)) = resultWithoutFb (step s) := by
  simp only [step, hostTurn_withoutFb, withoutFb_run]
  split
  · exact noTick_sameButFb ..
  · exact noTick_sameButFb ..
  · exact congrArg Host.Outcome.next (finishTick_sameButFb (idleStep (hostTurn s)))
  · rw [dispatchStart_withoutFb, exec_withoutFb, finish_sameButFb]

end Sys2Proof.Machine

open Sys2Proof.Machine Sys2Proof.Claims

/-- Settles O55: both steps are, up to the framebuffer, the step of the one state without it (`step_sameButFb`). -/
theorem framebufferIsOutputOnly : Obligations.FramebufferIsOutputOnly := by
  unfold Obligations.FramebufferIsOutputOnly
  intro s u h
  have hstep : resultWithoutFb (step s) = resultWithoutFb (step u) := by
    rw [← step_sameButFb s, h, step_sameButFb u]
  revert hstep
  cases step s <;> cases step u <;> simp [resultWithoutFb]

end

section
/-! O30. The register file: a write to a register or a pair is read back and reaches nothing else, and F is a byte with a low nibble of 0 (spec/10_state.md R40, R41, R42). -/

namespace Sys2Proof.Machine

theorem State.reg_setReg (s : State) (r q : Reg8) (v : Byte) : (s.setReg r v).reg q = if q = r then v else s.reg q := by
  split
  · next h => rw [h, reg_setReg_same]
  · next h => exact reg_setReg_other s h v

/-- A write to a register stays in the register file. -/
theorem State.setReg_outside (s : State) (r : Reg8) (v : Byte) : { s.setReg r v with regs := s.regs } = s := by
  cases r <;> rfl

/-- A 16-bit value is 256 times its high byte plus its low byte (spec/00_scope.md R10). -/
theorem imm16_toNat (lo hi : Byte) : (imm16 lo hi).toNat = 256 * hi.toNat + lo.toNat := by
  have hlo := lo.isLt
  have hhi := hi.isLt
  simp only [imm16, BitVec.toNat_ofNat]
  omega

theorem State.pair_setPair_other (s : State) {p q : Pair} (h : q ≠ p) (w : Word) : (s.setPair p w).pair q = s.pair q := by
  cases p <;> cases q
  case bc.bc | de.de | hl.hl | sp.sp => exact absurd rfl h
  all_goals rfl

/-- A write to a pair stays in the register file. -/
theorem State.setPair_outside (s : State) (p : Pair) (w : Word) : { s.setPair p w with regs := s.regs } = s := by
  cases p <;> rfl

/-! ## The flag byte -/

/-- The four flags are bits 7 to 4 of F. -/
theorem Flags.toByte_bits (f : Flags) :
    f.toByte.getLsbD 7 = f.z ∧ f.toByte.getLsbD 6 = f.n ∧ f.toByte.getLsbD 5 = f.h ∧ f.toByte.getLsbD 4 = f.c := by
  obtain ⟨z, n, h, c⟩ := f
  revert z n h c
  decide

theorem Flags.toByte_lowNibble (f : Flags) : f.toByte.toNat % 16 = 0 := by
  simp only [Flags.toByte, BitVec.toNat_ofNat]
  omega

/-- The bits of F below the flags are 0. -/
theorem Flags.toByte_lowBits (f : Flags) {k : Nat} (hk : k < 4) : f.toByte.getLsbD k = false := by
  obtain ⟨z, n, h, c⟩ := f
  interval_cases k <;> revert z n h c <;> decide

theorem Flags.toByte_ofByte (v : Byte) : (Flags.ofByte v).toByte = v &&& 0xF0 := by
  obtain ⟨h7, h6, h5, h4⟩ := Flags.toByte_bits (Flags.ofByte v)
  refine BitVec.eq_of_getLsbD_eq fun k hk => ?_
  by_cases hlow : k < 4
  · rw [Flags.toByte_lowBits _ hlow, BitVec.getLsbD_and]
    interval_cases k <;> simp
  · interval_cases k
    all_goals simp_all [Flags.ofByte]

end Sys2Proof.Machine

open Sys2Proof.Machine

/-- Settles O30: the reads of a register and of a pair by the cases written or not, and F's byte by its bits. -/
theorem registerFile : Obligations.RegisterFile := by
  unfold Obligations.RegisterFile
  intro r q p v w f s
  obtain ⟨hz, hn, hh, hc⟩ := f.toByte_bits
  exact ⟨s.reg_setReg r q v, s.setReg_regs_f r v, s.setReg_regs_sp r v, s.setReg_regs_pc r v, s.setReg_outside r v,
    imm16_toNat .., imm16_toNat .., imm16_toNat .., rfl, s.pair_setPair_same p w, fun _ hq => s.pair_setPair_other hq w,
    s.setPair_regs_a p w, s.setPair_regs_f p w, s.setPair_regs_pc p w, s.setPair_outside p w,
    hz, hn, hh, hc, f.toByte_lowNibble, Flags.toByte_ofByte v, f.ofByte_toByte⟩

end

section
/-! O34. The control part of the state (IME, IME_PENDING, RUN, HALT_REPEAT, FAULT) and the few instructions that reach it (spec/10_state.md R45, R46, R47, R65). -/

namespace Sys2Proof.Machine

open Sys2Proof.Claims

/-- The part of the state that only control instructions change, with the model's own fields that none does (log 6, 7). -/
def State.control (s : State) : Bool × ImePending × RunState × Bool × FaultRecord × Addr × List (List HostMove) :=
  (s.ime, s.imePending, s.run, s.haltRepeat, s.faultRec, s.opAddr, s.hostMoves)

theorem State.control_eq {s t : State} (h : t.control = s.control) :
    t.ime = s.ime ∧ t.imePending = s.imePending ∧ t.run = s.run ∧ t.haltRepeat = s.haltRepeat ∧ t.faultRec = s.faultRec ∧
      t.opAddr = s.opAddr ∧ t.hostMoves = s.hostMoves := by
  simpa [State.control] using h

/-! ## Register updates and the bus -/

@[simp] theorem State.setReg_control (s : State) (r : Reg8) (v : Byte) : (s.setReg r v).control = s.control := by cases r <;> rfl
@[simp] theorem State.setFlags_control (s : State) (f : Flags) : (s.setFlags f).control = s.control := rfl
@[simp] theorem State.setSp_control (s : State) (v : Word) : (s.setSp v).control = s.control := rfl
@[simp] theorem State.setPc_control (s : State) (v : Addr) : (s.setPc v).control = s.control := rfl
@[simp] theorem State.setPair_control (s : State) (p : Pair) (v : Word) : (s.setPair p v).control = s.control := by cases p <;> rfl
@[simp] theorem State.setStackPair_control (s : State) (p : StackPair) (v : Word) : (s.setStackPair p v).control = s.control := by
  cases p <;> rfl
@[simp] theorem State.took_control (s : State) (n : Nat) : (s.took n).control = s.control := rfl
@[simp] theorem popped_control (s : State) : (popped s).control = s.control := rfl

/-- No bus write reaches the control part. -/
@[simp] theorem busWrite_control (s : State) (a : Addr) (v : Byte) : (busWrite s a v).control = s.control := by
  simp [State.control]

@[simp] theorem busWrite16_control (s : State) (a : Addr) (v : Word) : (busWrite16 s a v).control = s.control := by
  simp [busWrite16]

@[simp] theorem push16_control (s : State) (v : Word) : (push16 s v).control = s.control := by simp [push16]

@[simp] theorem writeR8_control (s : State) (t : R8) (v : Byte) : (writeR8 s t v).control = s.control := by
  cases t <;> simp [writeR8]

/-! ## The shared operations of the instructions -/

@[simp] theorem ldRegReg_control (dst src : Reg8) (s : State) : (ldRegReg dst src s).control = s.control := by simp [ldRegReg]
@[simp] theorem ldRegAtHl_control (dst : Reg8) (s : State) : (ldRegAtHl dst s).control = s.control := by simp [ldRegAtHl]
@[simp] theorem ldAtHlReg_control (src : Reg8) (s : State) : (ldAtHlReg src s).control = s.control := by simp [ldAtHlReg]
@[simp] theorem ldRegN8_control (dst : Reg8) (n : Byte) (s : State) : (ldRegN8 dst n s).control = s.control := by simp [ldRegN8]
@[simp] theorem ldAFrom_control (a : Addr) (k : Nat) (s : State) : (ldAFrom a k s).control = s.control := by simp [ldAFrom]
@[simp] theorem ldAInto_control (a : Addr) (k : Nat) (s : State) : (ldAInto a k s).control = s.control := by simp [ldAInto]
@[simp] theorem ldAFromHlStep_control (d : Word) (s : State) : (ldAFromHlStep d s).control = s.control := by
  simp [ldAFromHlStep]
@[simp] theorem ldAIntoHlStep_control (d : Word) (s : State) : (ldAIntoHlStep d s).control = s.control := by
  simp [ldAIntoHlStep]
@[simp] theorem ldPairN16_control (p : Pair) (n : Word) (s : State) : (ldPairN16 p n s).control = s.control := by
  simp [ldPairN16]
@[simp] theorem ldHlSpPlus_control (u : Byte) (s : State) : (ldHlSpPlus u s).control = s.control := by simp [ldHlSpPlus]
@[simp] theorem pushPair_control (p : StackPair) (s : State) : (pushPair p s).control = s.control := by simp [pushPair]
@[simp] theorem popPair_control (p : StackPair) (s : State) : (popPair p s).control = s.control := by simp [popPair]
@[simp] theorem aluWith_control (op : AluOp) (v : Byte) (k : Nat) (s : State) : (aluWith op v k s).control = s.control := by
  simp [aluWith]
@[simp] theorem aluR8_control (op : AluOp) (t : R8) (s : State) : (aluR8 op t s).control = s.control := by simp [aluR8]
@[simp] theorem aluN8_control (op : AluOp) (n : Byte) (s : State) : (aluN8 op n s).control = s.control := by simp [aluN8]
@[simp] theorem incR8_control (t : R8) (s : State) : (incR8 t s).control = s.control := by simp [incR8]
@[simp] theorem decR8_control (t : R8) (s : State) : (decR8 t s).control = s.control := by simp [decR8]
@[simp] theorem incPair_control (p : Pair) (s : State) : (incPair p s).control = s.control := by simp [incPair]
@[simp] theorem decPair_control (p : Pair) (s : State) : (decPair p s).control = s.control := by simp [decPair]
@[simp] theorem addHl_control (p : Pair) (s : State) : (addHl p s).control = s.control := by simp [addHl]
@[simp] theorem addSp_control (u : Byte) (s : State) : (addSp u s).control = s.control := by simp [addSp]
@[simp] theorem jumpTo_control (a : Addr) (k : Nat) (s : State) : (jumpTo a k s).control = s.control := by simp [jumpTo]
@[simp] theorem callTo_control (a : Addr) (k : Nat) (s : State) : (callTo a k s).control = s.control := by simp [callTo]
@[simp] theorem retIn_control (k : Nat) (s : State) : (retIn k s).control = s.control := by simp [retIn]
@[simp] theorem jpCond_control (cc : Cond) (a : Addr) (s : State) : (jpCond cc a s).control = s.control := by
  unfold jpCond; split <;> simp
@[simp] theorem jrCond_control (cc : Cond) (u : Byte) (s : State) : (jrCond cc u s).control = s.control := by
  unfold jrCond; split <;> simp
@[simp] theorem callCond_control (cc : Cond) (a : Addr) (s : State) : (callCond cc a s).control = s.control := by
  unfold callCond; split <;> simp
@[simp] theorem retCond_control (cc : Cond) (s : State) : (retCond cc s).control = s.control := by
  unfold retCond; split <;> simp
@[simp] theorem rotA_control (op : RotOp) (s : State) : (rotA op s).control = s.control := by simp [rotA]
@[simp] theorem rotR8_control (op : RotOp) (t : R8) (s : State) : (rotR8 op t s).control = s.control := by simp [rotR8]
@[simp] theorem bitR8_control (b : Fin 8) (t : R8) (s : State) : (bitR8 b t s).control = s.control := by simp [bitR8]
@[simp] theorem resR8_control (b : Fin 8) (t : R8) (s : State) : (resR8 b t s).control = s.control := by simp [resR8]
@[simp] theorem setR8_control (b : Fin 8) (t : R8) (s : State) : (setR8 b t s).control = s.control := by simp [setR8]

/-! ## Every instruction -/

/-- The instructions that reach the control part: RETI, DI, EI, HALT, STOP and the illegal opcodes. -/
def ReachesControl (i : Instr) : Prop :=
  i ∈ [Instr.reti, .di, .ei, .halt] ∨ (∃ g, i = .stop g) ∨ ∃ p ∈ illegal, p.1 = i

/-- Every other instruction answers a state with the same control part: by the constructors, through the shared operation each calls. -/
theorem exec_control (i : Instr) (s : State) (hi : ¬ ReachesControl i) : ∃ t, exec i s = .next t ∧ t.control = s.control := by
  cases i
  case reti | di | ei | halt => exact absurd (.inl (by decide)) hi
  case stop g => exact absurd (.inr (.inl ⟨g, rfl⟩)) hi
  case illegalD3 | illegalDB | illegalDD | illegalE3 | illegalE4 | illegalEB | illegalEC | illegalED | illegalF4 | illegalFC |
      illegalFD => exact absurd (.inr (.inr (by decide))) hi
  all_goals
    refine ⟨_, rfl, ?_⟩
    simp

theorem exec_illegal {p : Instr × Byte} (hp : p ∈ illegal) (s : State) : exec p.1 s = .next (raiseIllegal p.2 s) := by
  simp only [illegal, List.cons_append, List.nil_append, List.mem_cons, List.not_mem_nil, or_false] at hp
  rcases hp with rfl | rfl | rfl | rfl | rfl | rfl | rfl | rfl | rfl | rfl | rfl <;> rfl

/-- HALT changes of the control part RUN or HALT_REPEAT alone (spec/45_system.md R610, R611). -/
theorem execHalt_control {s t : State} (h : execHalt s = .next t) :
    { t with run := s.run, haltRepeat := s.haltRepeat }.control = s.control := by
  unfold execHalt at h
  split at h <;> cases h <;> rfl

end Sys2Proof.Machine

open Sys2Proof.Machine Sys2Proof.Claims

/-- Settles O34: an instruction that does not reach the control part keeps it (`exec_control`), and each that does changes its own fields alone. -/
theorem eachInstructionKeepsTheOthersControlState : Obligations.EachInstructionKeepsTheOthersControlState := by
  unfold Obligations.EachInstructionKeepsTheOthersControlState
  intro i s t h
  by_cases hi : ReachesControl i
  · obtain hi | ⟨g, rfl⟩ | ⟨p, hp, rfl⟩ := hi
    · simp only [List.mem_cons, List.not_mem_nil, or_false] at hi
      obtain rfl | rfl | rfl | rfl := hi
      · cases h
        exact ⟨fun hne => absurd rfl hne, fun _ _ => rfl, fun _ _ _ => rfl, fun _ => rfl, fun _ => rfl, rfl, rfl⟩
      · cases h
        exact ⟨fun _ => rfl, fun hne _ => absurd rfl hne, fun _ _ _ => rfl, fun _ => rfl, fun _ => rfl, rfl, rfl⟩
      · cases h
        exact ⟨fun _ => rfl, fun _ hne => absurd rfl hne, fun _ _ _ => rfl, fun _ => rfl, fun _ => rfl, rfl, rfl⟩
      · obtain ⟨hime, hpending, -, -, hfault, haddr, hmoves⟩ := State.control_eq (execHalt_control h)
        exact ⟨fun _ => hime, fun _ _ => hpending, fun hne => absurd rfl hne, fun hne => absurd rfl hne, fun _ => hfault, haddr, hmoves⟩
    · cases h
      exact ⟨fun _ => rfl, fun _ _ => rfl, fun _ hne => absurd rfl (hne g), fun _ => rfl, fun _ => rfl, rfl, rfl⟩
    · rw [exec_illegal hp] at h
      cases h
      exact ⟨fun _ => rfl, fun _ _ => rfl, fun _ _ hne => absurd rfl (hne p hp), fun _ => rfl, fun hne => absurd rfl (hne p hp), rfl, rfl⟩
  · obtain ⟨u, hu, hcontrol⟩ := exec_control i s hi
    obtain rfl : u = t := by simpa [h] using hu.symm
    obtain ⟨hime, hpending, hrun, hrepeat, hfault, haddr, hmoves⟩ := State.control_eq hcontrol
    exact ⟨fun _ => hime, fun _ _ => hpending, fun _ _ _ => hrun, fun _ => hrepeat, fun _ => hfault, haddr, hmoves⟩

end

section
/-! O48. The load: the cartridge an accepted image gives (spec/70_reset_and_hazards.md R900, R911-R913) and what the reset table of R66 reads as. -/

namespace Sys2Proof.Machine

/-- The cartridge of an accepted image, its sizes those the header's codes stand for (R916). -/
theorem cartCheck_ok {img : List Byte} {c : Cart} (h : cartCheck img = .ok c) :
    ∃ kind nrom bytes, cartKind (img.getD 0x147 0) = some kind ∧ romBanks (img.getD 0x148 0) = some nrom ∧
      ramBytes (img.getD 0x149 0) = some bytes ∧
      c = Cart.reset kind img.length nrom (cartRamSize (img.getD 0x147 0) bytes) := by
  unfold cartCheck at h
  split_ifs at h
  split at h
  · cases h
  · next kind hkind =>
    split at h
    · next nrom bytes hnrom hbytes =>
      cases h
      exact ⟨kind, nrom, bytes, hkind, hnrom, hbytes, rfl⟩
    · cases h

/-- A loaded core is the reset state of the cartridge its image gives, with the image in CART_ROM (R900). -/
theorem load_ok {img : List Byte} {init : Memory} {fb : List (List Argb)} {s : State} (h : load img init fb = .ok s) :
    ∃ c, cartCheck img = .ok c ∧ s = State.resetWith c { init with cartRom := Cells.ofBytes 0 img } fb := by
  unfold load at h
  split at h
  · cases h
  · next c hc =>
    cases h
    exact ⟨c, hc, rfl⟩

/-! ## The header's codes -/

/-- The variant of an accepted cartridge type: ROM-only for type 0 (R913). -/
theorem cartKind_some {type : Byte} {kind : CartKind} (h : cartKind type = some kind) :
    kind = if type = 0 then .romOnly else .mbc1 := by
  have hzero : type = 0 ↔ type.toNat = 0 := BitVec.toNat_eq
  unfold cartKind at h
  split at h <;> simp_all

/-- NROM of an accepted ROM-size code (R911). -/
theorem romBanks_some {code : Byte} {n : Nat} (h : romBanks code = some n) : n = 2 * 2 ^ code.toNat := by
  unfold romBanks at h
  split at h <;> simp_all

/-- RamSize of an accepted RAM-size code (R912). -/
theorem ramBytes_some {code : Byte} {n : Nat} (h : ramBytes code = some n) :
    n = [0, 2048, 8192, 32768, 131072, 65536].getD code.toNat 0 := by
  unfold ramBytes at h
  split at h <;> cases h <;> simp [*]

/-! ## The I/O registers at reset -/

theorem busRead_of_io {s : State} {a : Addr} {r : IoReg} (h : resolve s.cart a = .io r) : busRead s a = ioRead s r := by
  simp only [busRead, h]

/-- The table of R66 gives P1, TAC, IF and STAT as fields; these are the bytes they read as. -/
theorem resetWith_ioReads (c : Cart) (mem : Memory) (fb : List (List Argb)) :
    busRead (State.resetWith c mem fb) 0xFF0F = 0xE1 ∧ busRead (State.resetWith c mem fb) 0xFF00 = 0xCF ∧
      busRead (State.resetWith c mem fb) 0xFF07 = 0xF8 ∧ busRead (State.resetWith c mem fb) 0xFF41 = 0x86 :=
  ⟨busRead_of_io (r := .ifReg) rfl, (busRead_of_io (r := .p1) rfl).trans (by decide : p1Read Joypad.reset = 0xCF), busRead_of_io (r := .tac) rfl, busRead_of_io (r := .stat) rfl⟩

end Sys2Proof.Machine

open Sys2Proof.Machine Sys2Proof.Claims

/-- Settles O48: the state is the reset state of R66 (`load_ok`), its cartridge the header's (`cartCheck_ok`), its ROM the image. -/
theorem loadResetsTheCore : Obligations.LoadResetsTheCore := by
  unfold Obligations.LoadResetsTheCore
  intro img init fb s h
  obtain ⟨c, hc, rfl⟩ := load_ok h
  obtain ⟨kind, nrom, bytes, hkind, hnrom, hbytes, rfl⟩ := cartCheck_ok hc
  obtain ⟨hif, hp1, htac, hstat⟩ := resetWith_ioReads (Cart.reset kind img.length nrom (cartRamSize (img.getD 0x147 0) bytes))
    { init with cartRom := Cells.ofBytes 0 img } fb
  have hram : cartRamSize (img.getD 0x147 0) bytes = if img.getD 0x147 0 = 2 ∨ img.getD 0x147 0 = 3 then
      [0, 2048, 8192, 32768, 131072, 65536].getD (img.getD 0x149 0).toNat 0 else 0 := by
    rw [← ramBytes_some hbytes]
    rfl
  have hrom : ∀ k, k < img.length → Cells.read (Cells.ofBytes 0 img) k = img.getD k 0 := fun k _ => by
    simpa [unlisted] using Cells.read_ofBytes 0 img k
  have hothers : ∀ r, r ≠ .cartRom → ({ init with cartRom := Cells.ofBytes 0 img } : Memory).cells r = init.cells r :=
    fun r hr => Memory.cells_setCells_other init hr (Cells.ofBytes 0 img)
  exact ⟨rfl, rfl, rfl, rfl, rfl, rfl, rfl, rfl, hif, rfl, rfl, fun k => by cases k <;> rfl, hp1, rfl, htac, rfl, hstat,
    cartKind_some hkind, rfl, romBanks_some hnrom, hram, rfl, rfl, rfl, rfl, hrom, hothers⟩

end

section
/-! O54. A core with a recorded fault is LOCKED, and a step of a LOCKED core is the host's moves alone (spec/10_state.md R65, spec/45_system.md R620; log 7, 8). -/

namespace Sys2Proof.Machine

/-- A step of a core that the host's moves leave LOCKED answers the state after those moves, if it answers one (log 8). -/
theorem step_of_locked {s t : State} (hrun : (hostTurn s).run = .locked) (h : step s = .next t) : t = hostTurn s := by
  simp only [step, hrun, noTick] at h
  split at h <;> simp_all

end Sys2Proof.Machine

open Sys2Proof.Machine

/-- Settles O54: the recorded fault has the core LOCKED, so the step answers the host's turn (`step_of_locked`), which changes buttons and the Joypad bit alone (`hostTurn_of_locked`). -/
theorem recordedFaultIsNeverCleared : Obligations.RecordedFaultIsNeverCleared := by
  unfold Obligations.RecordedFaultIsNeverCleared
  intro s t hinv hfault h
  have hlocked : s.run = .locked := hinv.lockedIff.2 hfault
  obtain ⟨moves, buttons, ifl, hturn, hifl⟩ := hostTurn_of_locked hlocked
  have ht : t = hostTurn s := step_of_locked (by rw [hturn]; exact hlocked) h
  refine ⟨ht, ?_⟩
  rw [ht, hturn]
  exact ⟨rfl, hlocked, rfl, rfl, rfl, rfl, rfl, rfl, rfl, rfl, rfl, rfl, rfl, hifl, rfl, rfl⟩

end

section
/-! O49. The table of R66 meets the invariant, whatever the cartridge, the contents of the memories and the framebuffer, when those are in shape (spec/10_state.md R48, R49, R66). -/

namespace Sys2Proof.Machine

/-- What the reset table fixes meets the invariant; what it leaves open has to be in shape. -/
theorem State.resetWith_inv {c : Cart} {mem : Memory} {fb : List (List Argb)} (hmem : mem.wf)
    (hin : mem.within c.ramSize c.romSize) (hbank : c.bankLo ≠ 0) (hfb : fbShape fb) : (State.resetWith c mem fb).Inv where
  memWf := hmem
  memWithin := hin
  bankLo := hbank
  ly := (by decide : (0 : Byte).toNat < 154)
  lineCyc := (by decide : 0 < 456)
  mode := rfl
  spr := by simp [State.resetWith, Ppu.reset, oamSnapshot]
  fb := hfb
  divSub := (by decide : 0 < 256)
  timaSub := (by decide : 0 < 1024)
  lockedIff := by simp [State.resetWith]

theorem blankFb_shape : fbShape blankFb := by
  refine ⟨List.length_replicate, fun line hline => ?_⟩
  rw [List.eq_of_mem_replicate hline]
  exact List.length_replicate

end Sys2Proof.Machine

open Sys2Proof.Machine

/-- Settles O49: the reset state is the table of R66 over empty memories and a blank framebuffer (`State.resetWith_inv`). -/
theorem resetStateMeetsTheInvariant : Obligations.ResetStateMeetsTheInvariant :=
  State.resetWith_inv Memory.empty_wf (Memory.empty_within ..) (by decide) blankFb_shape

end

section
/-! O53. The cartridge image and what the load fixed: no bus write reaches them, and a tick changes memory and cartridge by bus writes alone (spec/20_memory.md R150, R162, spec/10_state.md R48). -/

namespace Sys2Proof.Machine

open Sys2Proof.Claims

/-- What the load fixed: CART_ROM, the variant, |CART_ROM|, NROM and |CART_RAM| (spec/70_reset_and_hazards.md R900). -/
def State.image (s : State) : List Host.Cell × CartKind × Nat × Nat × Nat :=
  (s.mem.cartRom, s.cart.kind, s.cart.romSize, s.cart.nrom, s.cart.ramSize)

theorem State.image_eq {s t : State} (h : t.image = s.image) :
    t.mem.cartRom = s.mem.cartRom ∧ t.cart.kind = s.cart.kind ∧ t.cart.romSize = s.cart.romSize ∧
      t.cart.nrom = s.cart.nrom ∧ t.cart.ramSize = s.cart.ramSize := by
  simpa [State.image] using h

theorem State.image_of_mem_cart {s t : State} (hmem : t.mem = s.mem) (hcart : t.cart = s.cart) : t.image = s.image := by
  simp [State.image, hmem, hcart]

theorem State.image_of_bus {s t : State} (h : t.bus = s.bus) : t.image = s.image := by
  obtain ⟨hmem, hcart, -⟩ := State.bus_eq h
  exact State.image_of_mem_cart hmem hcart

@[simp] theorem State.setPc_image (s : State) (v : Addr) : (s.setPc v).image = s.image := State.image_of_mem_cart rfl rfl
@[simp] theorem State.took_image (s : State) (n : Nat) : (s.took n).image = s.image := State.image_of_mem_cart rfl rfl

/-! ## Stores -/

@[simp] theorem busWrite_image (s : State) (a : Addr) (v : Byte) : (busWrite s a v).image = s.image := by
  obtain ⟨hkind, hrom, hnrom, hram⟩ := busWrite_cart_fixed s a v
  simp [State.image, busWrite_rom, hkind, hrom, hnrom, hram]

@[simp] theorem stored_image (l : List (Addr × Byte)) (s : State) : (stored s l).image = s.image := by
  induction l generalizing s with
  | nil => rfl
  | cons p l ih => rw [stored_cons, ih, busWrite_image]

@[simp] theorem push16_image (s : State) (v : Word) : (push16 s v).image = s.image :=
  (State.image_of_bus (push16_bus s v)).trans (stored_image ..)

/-! ## The parts of a tick -/

/-- An instruction acts on memory and cartridge by its stores alone (`exec_storesOnly`), and STOP not at all. -/
theorem exec_image {i : Instr} {s t : State} (h : exec i s = .next t) : t.image = s.image := by
  by_cases hstop : ∃ g, i = .stop g
  · obtain ⟨g, rfl⟩ := hstop
    exact State.image_of_bus (s := resetDiv s) (execStop_bus h)
  · obtain ⟨u, hu, hbus⟩ := exec_storesOnly i s (not_exists.1 hstop)
    obtain rfl : u = t := by simpa [h] using hu.symm
    exact (State.image_of_bus hbus).trans (stored_image ..)

@[simp] theorem fetched_image (s : State) : (fetched s).image = s.image := State.image_of_mem_cart (by simp) (by simp)

@[simp] theorem wake_image (s : State) : (wake s).image = s.image := State.image_of_mem_cart (by simp) (by simp)

theorem fetchInstr_image (s : State) : (fetchInstr s).2.image = s.image := by
  have haddr : ({ s with opAddr := s.regs.pc } : State).image = s.image := rfl
  unfold fetchInstr
  dsimp only
  split <;> simp [haddr]

theorem dispatchStart_image (s : State) : (dispatchStart s).2.image = s.image :=
  (fetchInstr_image _).trans (State.image_of_mem_cart (by simp) (by simp))

@[simp] theorem dispatchInt_image (line : Line) (s : State) : (dispatchInt line s).image = s.image := by
  have hack : ({ acknowledge line s with ime := false } : State).image = s.image := State.image_of_mem_cart rfl rfl
  simp only [dispatchInt, wake_image, State.setPc_image, push16_image, hack]

theorem poll_image (s : State) : (poll s).image = s.image := by
  have hwake : (if s.pending = 0 then s else wake s).image = s.image := by split <;> simp
  obtain hpoll | ⟨line, -, -, hpoll⟩ := poll_cases s <;> rw [hpoll]
  · exact hwake
  · rw [State.took_image, dispatchInt_image, hwake]

theorem finishTick_image (s : State) : (finishTick s).image = s.image := by
  unfold finishTick
  split
  · rfl
  · exact (State.image_of_mem_cart (by simp [devicesAdvance]) (by simp [devicesAdvance])).trans (poll_image s)

theorem hostTurn_image (s : State) : (hostTurn s).image = s.image := State.image_of_mem_cart (by simp) (by simp)

theorem finish_image {r : Result} {s t : State} (hr : ∀ u, r = .next u → u.image = s.image) (h : finish r = .next t) :
    t.image = s.image := by
  cases r with
  | next u =>
    cases h
    exact (finishTick_image u).trans (hr u rfl)
  | fault | refused => cases h

theorem noTick_image {why : Fault} {s u t : State} (h : noTick why s u = .next t) : t.image = u.image := by
  unfold noTick at h
  split at h <;> cases h
  rfl

/-- A step keeps what the load fixed, whatever RUN is after the host's moves. -/
theorem step_image {s t : State} (h : step s = .next t) : t.image = s.image := by
  refine Eq.trans ?_ (hostTurn_image s)
  unfold step at h
  dsimp only at h
  split at h
  · exact noTick_image h
  · exact noTick_image h
  · cases h
    exact finishTick_image _
  · exact finish_image (fun u hu => (exec_image hu).trans (dispatchStart_image _)) h

end Sys2Proof.Machine

open Sys2Proof.Machine

/-- Settles O53: a step keeps what the load fixed (`step_image`), for every part of it stores through the bus alone, which reaches none of it (`busWrite_image`). -/
theorem nothingChangesTheCartridgeImage : Obligations.NothingChangesTheCartridgeImage := by
  unfold Obligations.NothingChangesTheCartridgeImage
  intro s t h
  exact State.image_eq (step_image h)

end

section
/-! The address map, device by device (spec/20_memory.md R120, R121, R130, R131), for the statements about the bus. -/

namespace Sys2Proof.Machine

open Sys2Proof.Claims

/-! ## The one device behind an address -/

theorem resolve_rom (c : Cart) {a : Addr} (h : a.toNat < 0x8000) : resolve c a = .rom a.toNat := by
  simp [resolve, h]

/-- In the RAM window CART_RAM answers where the cartridge gives an offset, and nothing where it gives none. -/
theorem resolve_ramWindow (c : Cart) {a : Addr} (hlo : 0xA000 ≤ a.toNat) (hhi : a.toNat < 0xC000) :
    resolve c a = (c.ramOffset a.toNat).elim .unmapped (.cell .cartRam) := by
  simp (disch := omega) only [resolve, if_neg, if_pos]
  cases c.ramOffset a.toNat <;> rfl

theorem resolve_of_ramOffset_some {c : Cart} {a : Addr} (hlo : 0xA000 ≤ a.toNat) (hhi : a.toNat < 0xC000) {k : Nat}
    (h : c.ramOffset a.toNat = some k) : resolve c a = .cell .cartRam k := by
  rw [resolve_ramWindow c hlo hhi, h, Option.elim_some]

theorem resolve_of_ramOffset_none {c : Cart} {a : Addr} (hlo : 0xA000 ≤ a.toNat) (hhi : a.toNat < 0xC000)
    (h : c.ramOffset a.toNat = none) : resolve c a = .unmapped := by
  rw [resolve_ramWindow c hlo hhi, h, Option.elim_none]

theorem resolve_unusable (c : Cart) {a : Addr} (hlo : 0xFEA0 ≤ a.toNat) (hhi : a.toNat < 0xFF00) :
    resolve c a = .unmapped := by
  simp (disch := omega) only [resolve, if_neg, if_pos]

theorem resolve_ie (c : Cart) {a : Addr} (h : a.toNat = 0xFFFF) : resolve c a = .ie := by
  simp (disch := omega) only [resolve, if_neg]

/-- The I/O window is what lies below and above the audio storage, and there `ioRegAt` names the register (R130). -/
theorem resolve_ioWindow (c : Cart) {k : Nat} (hk : k < 0x80) (haudio : k < 0x10 ∨ 0x40 ≤ k) :
    resolve c (0xFF00 + BitVec.ofNat 16 k) = (ioRegAt k).elim .unmapped .io := by
  have ha : (0xFF00 + BitVec.ofNat 16 k : Addr).toNat = 0xFF00 + k := by
    rw [BitVec.toNat_add, BitVec.toNat_ofNat]
    simp
    omega
  simp (disch := omega) only [resolve, ha, if_neg, if_pos, Nat.add_sub_cancel_left]
  cases ioRegAt k <;> rfl

/-! ## The cells of storage -/

/-- The cell of a device that is one. -/
def Device.asCell (d : Device) : Option (Region × Nat) :=
  match d with
  | .cell r i => some (r, i)
  | _ => none

theorem Device.asCell_eq_some {d : Device} {r : Region} {k : Nat} : d.asCell = some (r, k) ↔ d = .cell r k := by
  cases d <;> simp [Device.asCell]

theorem cellAt_of_storage {n : Nat} {p : Region × Nat} (h : storage n = some p) (c : Cart) : cellAt c n = some p := by
  have hout : ¬ (0xA000 ≤ n ∧ n < 0xC000) := by
    intro hn
    simp (disch := omega) only [storage, if_neg] at h
    cases h
  rw [cellAt, if_neg hout, h]

/-- In the RAM window the cell of the statements is the byte of CART_RAM the cartridge gives (R157). -/
theorem cellAt_ramWindow (c : Cart) {n : Nat} (hlo : 0xA000 ≤ n) (hhi : n < 0xC000) :
    cellAt c n = (c.ramOffset n).map (.cartRam, ·) := by
  rw [cellAt, if_pos ⟨hlo, hhi⟩]
  unfold Cart.ramOffset
  cases c.kind with
  | romOnly => rfl
  | mbc1 => by_cases hen : c.ramEn = true <;> by_cases hsize : c.ramSize = 0 <;> simp [Cart.ramBank, hen, hsize]

/-- The cell the statements name is the cell that answers on the bus, at every address. -/
theorem asCell_resolve (c : Cart) (a : Addr) : (resolve c a).asCell = cellAt c a.toNat := by
  by_cases hram : 0xA000 ≤ a.toNat ∧ a.toNat < 0xC000
  · rw [resolve_ramWindow c hram.1 hram.2, cellAt_ramWindow c hram.1 hram.2]
    cases c.ramOffset a.toNat <;> rfl
  · rw [cellAt, if_neg hram]
    simp only [resolve]
    split_ifs with _ _ hbelow
    on_goal 3 => exact absurd ⟨by omega, hbelow⟩ hram
    on_goal 7 => cases ioRegAt (a.toNat - 0xFF00)
    all_goals simp (disch := omega) only [storage, if_neg, if_pos, Device.asCell]

theorem resolve_eq_cell_iff {c : Cart} {a : Addr} {r : Region} {k : Nat} :
    resolve c a = .cell r k ↔ cellAt c a.toNat = some (r, k) := by
  rw [← asCell_resolve, Device.asCell_eq_some]

/-! ## Reads and writes of each device -/

theorem busRead_of_cell {s : State} {a : Addr} {r : Region} {k : Nat} (h : resolve s.cart a = .cell r k) :
    busRead s a = s.mem.read r k := by
  simp only [busRead, h]

theorem busRead_of_unmapped {s : State} {a : Addr} (h : resolve s.cart a = .unmapped) : busRead s a = 0xFF := by
  simp only [busRead, h]
  rfl

theorem busWrite_of_unmapped {s : State} {a : Addr} (h : resolve s.cart a = .unmapped) (v : Byte) : busWrite s a v = s := by
  simp only [busWrite, h]

theorem busWrite_of_io {s : State} {a : Addr} {r : IoReg} (h : resolve s.cart a = .io r) (v : Byte) :
    busWrite s a v = ioWrite s r v := by
  simp only [busWrite, h]

theorem busRead_of_rom {s : State} {a : Addr} (h : a.toNat < 0x8000) : busRead s a = romRead s.cart s.mem a.toNat := by
  simp only [busRead, resolve_rom s.cart h]

theorem busWrite_of_rom {s : State} {a : Addr} (h : a.toNat < 0x8000) (v : Byte) :
    busWrite s a v = { s with cart := s.cart.control a.toNat v } := by
  simp only [busWrite, resolve_rom s.cart h]

theorem busRead_of_ie {s : State} {a : Addr} (h : a.toNat = 0xFFFF) : busRead s a = s.ie := by
  simp only [busRead, resolve_ie s.cart h]

theorem busWrite_of_ie {s : State} {a : Addr} (h : a.toNat = 0xFFFF) (v : Byte) : busWrite s a v = { s with ie := v } := by
  simp only [busWrite, resolve_ie s.cart h]

end Sys2Proof.Machine

open Sys2Proof.Machine Sys2Proof.Claims

/-- Settles O31: each range of the map has its device (`resolve_rom`, `resolve_eq_cell_iff` and their neighbours), and a read or write is that device's. -/
theorem addressMap : Obligations.AddressMap := by
  unfold Obligations.AddressMap
  intro a v s n
  refine ⟨fun h => ⟨busRead_of_rom h, busWrite_of_rom h v⟩, fun r k h => ?_, fun hlo hhi k h => ?_, fun hlo hhi h => ?_,
    fun hlo hhi => ?_, fun h => ?_⟩
  · have hcell : resolve s.cart a = .cell r k := resolve_eq_cell_iff.2 (cellAt_of_storage h s.cart)
    exact ⟨busRead_of_cell hcell, busWrite_of_cell hcell v⟩
  · have hcell := resolve_of_ramOffset_some hlo hhi h
    exact ⟨busRead_of_cell hcell, busWrite_of_cell hcell v⟩
  · have hnone := resolve_of_ramOffset_none hlo hhi h
    exact ⟨busRead_of_unmapped hnone, busWrite_of_unmapped hnone v⟩
  · have hnone := resolve_unusable s.cart hlo hhi
    exact ⟨busRead_of_unmapped hnone, busWrite_of_unmapped hnone v⟩
  · exact ⟨busRead_of_ie h, busWrite_of_ie h v⟩

/-- Settles O32: two addresses share a byte when one cell answers both (`resolve_eq_cell_iff`), and a write to a cell is read back there and reaches no other device. -/
theorem storageReadsBackAndKeepsTheRest : Obligations.StorageReadsBackAndKeepsTheRest := by
  unfold Obligations.StorageReadsBackAndKeepsTheRest
  intro a b v s hwf hsome
  obtain ⟨⟨r, k⟩, hcell⟩ := Option.isSome_iff_exists.1 hsome
  have ha : resolve s.cart a = .cell r k := resolve_eq_cell_iff.2 hcell
  rw [hcell]
  refine ⟨fun hb => busRead_busWrite_same hwf ha (resolve_eq_cell_iff.2 hb) v, fun hb => ?_⟩
  exact busRead_busWrite_other hwf ha (fun hne => hb (resolve_eq_cell_iff.1 hne)) v

end

section
/-! O35, O36. The I/O registers: which bits a read returns and which a write stores (spec/20_memory.md R130, spec/60_exceptions.md R801, R761). -/

namespace Sys2Proof.Machine

/-! ## Where no register answers -/

theorem ioRegAt_unused : ∀ k < 0x80, k ∈ [1, 2, 3, 8, 9, 10, 11, 12, 13, 14] ∨ 0x4C ≤ k → ioRegAt k = none := by decide

theorem resolve_ioUnused (c : Cart) {k : Nat} (hk : k < 0x80) (h : k ∈ [1, 2, 3, 8, 9, 10, 11, 12, 13, 14] ∨ 0x4C ≤ k) :
    resolve c (0xFF00 + BitVec.ofNat 16 k) = .unmapped := by
  have haudio : k < 0x10 ∨ 0x40 ≤ k := by
    simp only [List.mem_cons, List.not_mem_nil, or_false] at h
    omega
  rw [resolve_ioWindow c hk haudio, ioRegAt_unused k hk h, Option.elim_none]

/-! ## The registers read with bits of their own -/

theorem tacRead_toNat (t : Timer) : (tacRead t).toNat = 0xF8 + 4 * t.enable.toNat + t.sel.toNat := by
  have henable := t.enable.toNat_le
  have hsel := t.sel.isLt
  rw [tacRead, BitVec.toNat_ofNat]
  omega

theorem ifRead_toNat (ifl : BitVec 5) : (ifRead ifl).toNat = 0xE0 + ifl.toNat := by
  have hifl := ifl.isLt
  rw [ifRead, BitVec.toNat_ofNat]
  omega

theorem PpuMode.code_le (m : PpuMode) : m.code ≤ 3 := by cases m <;> decide

theorem statRead_toNat (p : Ppu) :
    (statRead p).toNat = 0x80 + 8 * p.statHi.toNat + (if p.ly = p.lyc then 4 else 0) + p.mode.code := by
  have hhi := p.statHi.isLt
  have hmode := p.mode.code_le
  have hlyc : 4 * (p.ly == p.lyc).toNat = if p.ly = p.lyc then 4 else 0 := by by_cases h : p.ly = p.lyc <;> simp [h]
  rw [statRead, BitVec.toNat_ofNat, hlyc]
  split <;> omega

/-! ## P1 (R801) -/

/-- The byte with the given low four bits, bit 0 first. -/
def nibble (b0 b1 b2 b3 : Bool) : Byte := BitVec.ofNat 8 (b0.toNat + 2 * b1.toNat + 4 * b2.toNat + 8 * b3.toNat)

/-- A pressed button of a selected group reads as 0, every other bit of the group as 1. -/
theorem groupNibble_eq : ∀ u b0 b1 b2 b3 : Bool, groupNibble u (b0.toNat + 2 * b1.toNat + 4 * b2.toNat + 8 * b3.toNat) =
    nibble (u || !b0) (u || !b1) (u || !b2) (u || !b3) := by decide

theorem nibble_and : ∀ a0 a1 a2 a3 b0 b1 b2 b3 : Bool,
    nibble a0 a1 a2 a3 &&& nibble b0 b1 b2 b3 = nibble (a0 && b0) (a1 && b1) (a2 && b2) (a3 && b3) := by decide

theorem p1_toNat : ∀ u d b0 b1 b2 b3 : Bool, (0xC0 ||| (bitByte u <<< 5) ||| (bitByte d <<< 4) ||| nibble b0 b1 b2 b3).toNat =
    0xC0 + 32 * u.toNat + 16 * d.toNat + (b0.toNat + 2 * b1.toNat + 4 * b2.toNat + 8 * b3.toNat) := by decide

/-- A low bit of P1, 0 when a selected group has its button pressed, as a number. -/
def p1Low (j : Joypad) (k : Nat) (d b : Bool) : Nat := if (!j.selDirs && d) || (!j.selButtons && b) then 0 else 2 ^ k

theorem p1Low_eq (j : Joypad) (k : Nat) (d b : Bool) :
    p1Low j k d b = 2 ^ k * ((j.selDirs || !d) && (j.selButtons || !b)).toNat := by
  unfold p1Low
  cases j.selDirs <;> cases j.selButtons <;> cases d <;> cases b <;> simp

theorem p1Read_toNat (j : Joypad) : (p1Read j).toNat = 0xC0 + 32 * j.selButtons.toNat + 16 * j.selDirs.toNat +
    (p1Low j 0 j.btn.right j.btn.a + p1Low j 1 j.btn.left j.btn.b + p1Low j 2 j.btn.up j.btn.select +
      p1Low j 3 j.btn.down j.btn.start) := by
  simp only [p1Read, Buttons.dirBits, Buttons.actionBits, groupNibble_eq, nibble_and, p1_toNat, p1Low_eq]
  omega

/-! ## Bits of the byte written -/

theorem extractLsb'_eq_ofNat (v : Byte) (k n : Nat) : v.extractLsb' k n = BitVec.ofNat n (v.toNat / 2 ^ k) := by
  rw [BitVec.extractLsb', Nat.shiftRight_eq_div_pow]

theorem extractLsb'_zero_beq (v : Byte) {n : Nat} (x : BitVec n) : (v.extractLsb' 0 n == x) = decide (v.toNat % 2 ^ n = x.toNat) := by
  simp only [beq_eq_decide, BitVec.toNat_eq, BitVec.extractLsb'_toNat, Nat.shiftRight_zero]

end Sys2Proof.Machine

open Sys2Proof.Machine

/-- Settles O35: each address names its register, whose read is the field or, for P1, TAC, IF and STAT, the number proved above. -/
theorem ioRegisterReads : Obligations.IoRegisterReads := by
  unfold Obligations.IoRegisterReads
  intro s low
  refine ⟨?_, busRead_of_io (r := .div) rfl, busRead_of_io (r := .tima) rfl, busRead_of_io (r := .tma) rfl, ?_, ?_,
    busRead_of_io (r := .lcdc) rfl, ?_, busRead_of_io (r := .scy) rfl, busRead_of_io (r := .scx) rfl, busRead_of_io (r := .ly) rfl,
    busRead_of_io (r := .lyc) rfl, busRead_of_io (r := .dma) rfl, busRead_of_io (r := .bgp) rfl, busRead_of_io (r := .obp0) rfl,
    busRead_of_io (r := .obp1) rfl, busRead_of_io (r := .wy) rfl, busRead_of_io (r := .wx) rfl,
    fun k hk h => busRead_of_unmapped (resolve_ioUnused s.cart hk h)⟩
  · rw [busRead_of_io (r := .p1) rfl]
    exact p1Read_toNat s.joypad
  · rw [busRead_of_io (r := .tac) rfl]
    exact tacRead_toNat s.timer
  · rw [busRead_of_io (r := .ifReg) rfl]
    exact ifRead_toNat s.ifl
  · rw [busRead_of_io (r := .stat) rfl]
    exact statRead_toNat s.ppu

/-- Settles O36: each address names its register, whose write stores the bits that `getLsbD_eq_decide` and `extractLsb'_eq_ofNat` count. -/
theorem ioRegisterWrites : Obligations.IoRegisterWrites := by
  unfold Obligations.IoRegisterWrites
  intro v s
  refine ⟨?_, busWrite_of_io (r := .div) rfl v, busWrite_of_io (r := .tima) rfl v, busWrite_of_io (r := .tma) rfl v, ?_, ?_,
    busWrite_of_io (r := .lcdc) rfl v, ?_, busWrite_of_io (r := .scy) rfl v, busWrite_of_io (r := .scx) rfl v,
    busWrite_of_io (r := .ly) rfl v, busWrite_of_io (r := .lyc) rfl v, busWrite_of_io (r := .bgp) rfl v,
    busWrite_of_io (r := .obp0) rfl v, busWrite_of_io (r := .obp1) rfl v, busWrite_of_io (r := .wy) rfl v,
    busWrite_of_io (r := .wx) rfl v, fun k hk h => busWrite_of_unmapped (resolve_ioUnused s.cart hk h) v⟩
  · rw [busWrite_of_io (r := .p1) rfl, ioWrite, getLsbD_eq_decide, getLsbD_eq_decide]
    rfl
  · rw [busWrite_of_io (r := .tac) rfl, ioWrite, getLsbD_eq_decide, extractLsb'_eq_ofNat]
    simp
  · rw [busWrite_of_io (r := .ifReg) rfl, ioWrite, extractLsb'_eq_ofNat]
    simp
  · rw [busWrite_of_io (r := .stat) rfl, ioWrite, extractLsb'_eq_ofNat]
    rfl

end

section
/-! O37. OAM DMA: each of the 160 bytes is copied by a bus write to OAM, and no source address reads an OAM byte that another index has overwritten (spec/20_memory.md R140). -/

namespace Sys2Proof.Machine

open Sys2Proof.Claims

/-- The bus address of an OAM byte (R120). -/
def oamAddr (i : Nat) : Addr := 0xFE00 + BitVec.ofNat 16 i

theorem resolve_oamAddr (c : Cart) {i : Nat} (hi : i < 160) : resolve c (oamAddr i) = .cell .oam i := by
  have haddr : (oamAddr i).toNat = 0xFE00 + i := by
    rw [oamAddr, BitVec.toNat_add, BitVec.toNat_ofNat]
    simp
    omega
  apply resolve_eq_cell_iff.2
  refine cellAt_of_storage ?_ c
  simp (disch := omega) only [haddr, storage, if_neg, if_pos, Nat.add_sub_cancel_left]

/-- The byte that answers as OAM byte `i` lies at 0xFE00 + i. -/
theorem toNat_of_resolve_oam {c : Cart} {a : Addr} {i : Nat} (h : resolve c a = .cell .oam i) :
    a.toNat = 0xFE00 + i := by
  rw [resolve_eq_cell_iff, cellAt, storage] at h
  split_ifs at h <;> simp only [Option.some.injEq, Prod.mk.injEq, reduceCtorEq, false_and, true_and] at h
  omega

/-- Source byte `j` of a DMA of `v` lies at v * 0x100 + j. -/
theorem dmaSource_eq (v : Byte) (j : Nat) : imm16 0 v + BitVec.ofNat 16 j = BitVec.ofNat 16 (0x100 * v.toNat + j) := by
  simp [imm16, BitVec.ofNat_add, Nat.mul_comm]

/-- A DMA of 0xFE copies OAM onto itself, and any other page holds no OAM byte. -/
theorem dmaSource_oam {c : Cart} {v : Byte} {i j : Nat} (hj : j < 160)
    (h : resolve c (imm16 0 v + BitVec.ofNat 16 j) = .cell .oam i) : i = j := by
  have haddr := toNat_of_resolve_oam h
  have hi := (resolve_cell h).2 0
  have hv := v.isLt
  rw [dmaSource_eq, BitVec.toNat_ofNat] at haddr
  simp only [Region.size] at hi
  omega

/-- One byte of the copy is a bus write to its OAM address. -/
theorem oamDmaFrom_succ (base : Addr) {i : Nat} (hi : i < 160) (k : Nat) (s : State) :
    oamDmaFrom base i (k + 1) s =
      oamDmaFrom base (i + 1) k (busWrite s (oamAddr i) (busRead s (base + BitVec.ofNat 16 i))) := by
  rw [oamDmaFrom, busWrite_of_cell (resolve_oamAddr s.cart hi)]

/-- OAM during the copy: the bytes from `i` on are the sources as read when the copy of byte `i` begins. -/
theorem oamDmaFrom_read_oam (v : Byte) {i k : Nat} (hk : i + k ≤ 160) {s : State} (hwf : s.mem.wf) (j : Nat) :
    (oamDmaFrom (imm16 0 v) i k s).mem.read .oam j =
      if i ≤ j ∧ j < i + k then busRead s (imm16 0 v + BitVec.ofNat 16 j) else s.mem.read .oam j := by
  induction k generalizing i s with
  | zero => rw [if_neg (by omega), oamDmaFrom]
  | succ k ih =>
    have hi : i < 160 := by omega
    have hcell := resolve_oamAddr s.cart hi
    rw [oamDmaFrom_succ _ hi, ih (by omega) (busWrite_wf hwf ..)]
    by_cases hlater : i + 1 ≤ j ∧ j < i + 1 + k
    · rw [if_pos hlater, if_pos (by omega)]
      refine busRead_busWrite_other hwf hcell (fun hsrc => ?_) _
      have := dmaSource_oam (by omega) hsrc
      omega
    · rw [if_neg hlater, busWrite_of_cell hcell]
      by_cases hj : j = i
      · rw [if_pos (by omega), hj]
        exact Memory.read_write_same hwf .oam i _
      · rw [if_neg (by omega)]
        exact Memory.read_write_other hwf (r := .oam) (q := .oam) (fun he => hj (Prod.mk.inj he).2) _

/-- The copy writes memory alone. -/
theorem oamDmaFrom_frame (base : Addr) (i k : Nat) (s : State) : { oamDmaFrom base i k s with mem := s.mem } = s := by
  ext <;> simp

theorem busWrite_dma (s : State) (v : Byte) : busWrite s 0xFF46 v = oamDma v s := busWrite_of_io (r := .dma) rfl v

end Sys2Proof.Machine

open Sys2Proof Sys2Proof.Machine

/-- Settles O37: OAM holds the sources as read when DMA holds `v` (`oamDmaFrom_read_oam`), and the copy keeps the other memories and the rest. -/
theorem oamDmaCopies160Bytes : Obligations.OamDmaCopies160Bytes := by
  unfold Obligations.OamDmaCopies160Bytes
  intro v s hwf s0 t
  have ht : t = oamDmaFrom (imm16 0 v) 0 160 s0 := busWrite_dma s v
  rw [ht]
  refine ⟨fun i hi => ?_, fun r hr => oamDmaFrom_cells _ _ _ s0 hr, oamDmaFrom_frame _ _ _ s0⟩
  have hwf0 : s0.mem.wf := hwf
  rw [oamDmaFrom_read_oam v (by omega) hwf0, if_pos (by omega), dmaSource_eq]

end

section
/-! O38. The cartridge: the offsets its windows name and the control registers its writes set (spec/20_memory.md R150-R157). -/

namespace Sys2Proof.Machine

/-! ## The offsets of the ROM and RAM windows -/

section
variable {c : Cart}

theorem Cart.romOffset_of_romOnly (h : c.kind = .romOnly) (n : Nat) : c.romOffset n = n := by
  simp only [Cart.romOffset, h]

theorem Cart.romOffset_of_low (h : c.kind = .mbc1) {n : Nat} (hn : n < 0x4000) : c.romOffset n = n := by
  simp only [Cart.romOffset, h, if_pos hn]

theorem Cart.romOffset_of_high (h : c.kind = .mbc1) {n : Nat} (hn : 0x4000 ≤ n) :
    c.romOffset n = c.romBank % c.nrom * 0x4000 + (n - 0x4000) := by
  simp only [Cart.romOffset, h, if_neg (Nat.not_lt.2 hn)]

theorem Cart.ramOffset_of_romOnly (h : c.kind = .romOnly) (n : Nat) : c.ramOffset n = none := by
  simp only [Cart.ramOffset, h]

theorem Cart.ramOffset_of_closed (h : c.kind = .mbc1) (hclosed : c.ramEn = false ∨ c.ramSize = 0) (n : Nat) :
    c.ramOffset n = none := by
  rcases hclosed with hen | hsize <;> simp [Cart.ramOffset, *]

theorem Cart.ramOffset_of_open (h : c.kind = .mbc1) (hen : c.ramEn = true) (hsize : c.ramSize ≠ 0) (n : Nat) :
    c.ramOffset n = some ((c.ramBank * 0x2000 + (n - 0xA000)) % c.ramSize) := by
  simp [Cart.ramOffset, h, hen, hsize]

/-! ## The control registers -/

theorem Cart.control_of_romOnly (h : c.kind = .romOnly) (n : Nat) (v : Byte) : c.control n v = c := by
  simp only [Cart.control, h]

/-- The gate opens for a low nibble of 0xA alone (R151). -/
theorem Cart.control_ramEn (h : c.kind = .mbc1) {n : Nat} (hn : n < 0x2000) (v : Byte) :
    c.control n v = { c with ramEn := decide (v.toNat % 16 = 0xA) } := by
  simp only [Cart.control, h, if_pos hn, extractLsb'_zero_beq]
  rfl

/-- BANK_LO takes five bits, 0 coerced to 1 (R152). -/
theorem Cart.control_bankLo_eq (h : c.kind = .mbc1) {n : Nat} (hlo : 0x2000 ≤ n) (hhi : n < 0x4000) (v : Byte) :
    c.control n v = { c with bankLo := BitVec.ofNat 5 (if v.toNat % 32 = 0 then 1 else v.toNat) } := by
  have hzero : (v.extractLsb' 0 5 == 0) = decide (v.toNat % 32 = 0) := extractLsb'_zero_beq v 0
  simp only [Cart.control, h, if_neg (Nat.not_lt.2 hlo), if_pos hhi, hzero]
  by_cases hv : v.toNat % 32 = 0 <;> simp [hv, extractLsb'_eq_ofNat]

theorem Cart.control_bankHi (h : c.kind = .mbc1) {n : Nat} (hlo : 0x4000 ≤ n) (hhi : n < 0x6000) (v : Byte) :
    c.control n v = { c with bankHi := BitVec.ofNat 2 v.toNat } := by
  simp (disch := omega) only [Cart.control, h, if_neg, if_pos, extractLsb'_eq_ofNat]
  simp

theorem Cart.control_modeLatch (h : c.kind = .mbc1) {n : Nat} (hn : 0x6000 ≤ n) (v : Byte) :
    c.control n v = { c with modeLatch := decide (v.toNat % 2 = 1) } := by
  simp (disch := omega) only [Cart.control, h, if_neg, getLsbD_eq_decide]
  simp

end

end Sys2Proof.Machine

open Sys2Proof.Machine

/-- Settles O38: a read is the image's or CART_RAM's byte at the offset of its window, and a write is the control register of its range. -/
theorem cartridgeReadsAndBanks : Obligations.CartridgeReadsAndBanks := by
  unfold Obligations.CartridgeReadsAndBanks
  intro a v s n c byte bank off
  have hrom : ∀ {k}, n < 0x8000 → c.romOffset n = k → busRead s a = byte k := fun hn hk => by
    rw [busRead_of_rom hn, romRead, hk]
    rfl
  have hcontrol : ∀ {c'}, n < 0x8000 → c.control n v = c' → busWrite s a v = { s with cart := c' } := fun hn hc => by
    rw [busWrite_of_rom hn, hc]
  have hclosed : 0xA000 ≤ n → n < 0xC000 → c.ramOffset n = none → busRead s a = 0xFF ∧ busWrite s a v = s := fun hlo hhi h =>
    have hnone := resolve_of_ramOffset_none hlo hhi h
    ⟨busRead_of_unmapped hnone, busWrite_of_unmapped hnone v⟩
  refine ⟨fun hk => ⟨fun hn => ⟨?_, ?_⟩, fun hlo hhi => ?_⟩, fun hk => ⟨fun hn => ?_, fun hlo hhi => ?_, fun hn => ?_, fun hlo hhi => ?_,
    fun hlo hhi => ?_, fun hlo hhi => ?_, fun hlo hhi hram => ?_, fun hlo hhi hen hsize => ?_⟩⟩
  · exact hrom hn (Cart.romOffset_of_romOnly hk n)
  · exact hcontrol hn (Cart.control_of_romOnly hk n v)
  · exact hclosed hlo hhi (Cart.ramOffset_of_romOnly hk n)
  · exact hrom (by omega) (Cart.romOffset_of_low hk hn)
  · exact hrom hhi (Cart.romOffset_of_high hk hlo)
  · exact hcontrol (by omega) (Cart.control_ramEn hk hn v)
  · exact hcontrol (by omega) (Cart.control_bankLo_eq hk hlo hhi v)
  · exact hcontrol (by omega) (Cart.control_bankHi hk hlo hhi v)
  · exact hcontrol hhi (Cart.control_modeLatch hk hlo v)
  · exact hclosed hlo hhi (Cart.ramOffset_of_closed hk hram n)
  · have hcell := resolve_of_ramOffset_some hlo hhi (Cart.ramOffset_of_open hk hen hsize n)
    exact ⟨busRead_of_cell hcell, busWrite_of_cell hcell v⟩

end

section
/-! O56, O57. The decoder and the encoder are inverse (spec/30_encoding.md R200-R214): an instruction is read back from its bytes, and the bytes are those of the instruction read. -/

namespace Sys2Proof

/-! ## The signed displacement (R202) -/

/-- The byte read as a signed number gives the displacement back exactly when it is in range. -/
theorem e8Byte_toInt_iff (e : Int) : (e8Byte e).toInt = e ↔ Disp.inRange e = true := by
  refine ⟨fun h => ?_, Machine.e8Byte_toInt e⟩
  have hlo : -128 ≤ (e8Byte e).toInt := BitVec.le_toInt _
  have hhi : (e8Byte e).toInt < 128 := BitVec.toInt_lt
  simp only [Disp.inRange, Bool.and_eq_true, decide_eq_true_eq]
  omega

@[simp] theorem e8Byte_of_toInt (b : Byte) : e8Byte b.toInt = b := BitVec.ofInt_toInt

/-! ## Decoding the bytes of an instruction -/

/-- What a decoder that reads a 16-bit operand from its two bytes answers is the instruction with that operand. -/
theorem ok_imm16 (f : Word → Instr) (n : Word) (rest : List Byte) :
    (.ok (f (imm16 (lowByte n) (highByte n)), rest) : Except DecodeError (Instr × List Byte)) = .ok (f n, rest) := by
  rw [Machine.imm16_bytes]

/-- What a decoder that reads a displacement from its byte answers is the instruction with that displacement exactly when it is in range. -/
theorem ok_disp_iff {f : Int → Instr} (hf : f.Injective) (e : Int) (rest : List Byte) :
    (.ok (f (e8Byte e).toInt, rest) : Except DecodeError (Instr × List Byte)) = .ok (f e, rest) ↔ Disp.inRange e = true := by
  rw [← e8Byte_toInt_iff, Except.ok.injEq, Prod.mk.injEq, hf.eq_iff]
  exact and_iff_left rfl

/-- The bytes of an instruction decode to it exactly when it is well formed: by the constructors, of which those with a displacement can be ill formed. -/
theorem decode_encode_iff (i : Instr) (rest : List Byte) : decode (encode i ++ rest) = .ok (i, rest) ↔ i.wellFormed = true := by
  cases i
  case jrE8 e | jrNzE8 e | jrZE8 e | jrNcE8 e | jrCE8 e | addSpE8 e | ldHlSpE8 e =>
    exact ok_disp_iff (fun _ _ h => by cases h; rfl) e rest
  case ldBcN16 n | ldDeN16 n | ldHlN16 n | ldSpN16 n | ldAtA16Sp n | ldAtA16A n | ldAAtA16 n | jpA16 n | jpNzA16 n | jpZA16 n |
      jpNcA16 n | jpCA16 n | callA16 n | callNzA16 n | callZA16 n | callNcA16 n | callCA16 n =>
    exact iff_of_true (ok_imm16 _ n rest) rfl
  all_goals exact iff_of_true rfl rfl

/-! ## The bytes an instruction was read from -/

/-- The opcodes followed by one byte n8, a8 or STOP's own (R213). -/
def imm8Opcodes : List Byte :=
  [0x06, 0x0E, 0x16, 0x1E, 0x26, 0x2E, 0x36, 0x3E, 0xC6, 0xCE, 0xD6, 0xDE, 0xE6, 0xEE, 0xF6, 0xFE] ++ [0x10, 0xE0, 0xF0]

/-- The opcodes followed by a displacement (R213). -/
def dispOpcodes : List Byte := [0x18, 0x20, 0x28, 0x30, 0x38, 0xE8, 0xF8]

/-- The opcodes followed by a 16-bit value (R213). -/
def imm16Opcodes : List Byte :=
  [0x01, 0x08, 0x11, 0x21, 0x31, 0xC2, 0xC3, 0xC4, 0xCA, 0xCC, 0xCD, 0xD2, 0xD4, 0xDA, 0xDC, 0xEA, 0xFA]

theorem instrLength_cases : ∀ op : Byte, instrLength op = 1 ∨ instrLength op = 2 ∨ instrLength op = 3 := by decide +kernel

/-- An opcode with one more byte takes it as n8, as a displacement or as the extended opcode. -/
theorem opcode_of_length_two :
    ∀ op : Byte, instrLength op = 2 → op ∈ imm8Opcodes ∨ op ∈ dispOpcodes ∨ op = 0xCB := by decide +kernel

theorem opcode_of_length_three : ∀ op : Byte, instrLength op = 3 → op ∈ imm16Opcodes := by decide +kernel

/-- An instruction of one byte has no operand, so its opcode is all there is to encode. -/
theorem encode_of_length_one : ∀ op : Byte, instrLength op = 1 → encode (decodeBytes op 0 0) = [op] := by decide +kernel

theorem encode_of_imm8 {op : Byte} (h : op ∈ imm8Opcodes) (b : Byte) : encode (decodeBytes op b 0) = [op, b] := by
  fin_cases h <;> rfl

theorem encode_of_disp {op : Byte} (h : op ∈ dispOpcodes) (b : Byte) : encode (decodeBytes op b 0) = [op, e8Byte b.toInt] := by
  fin_cases h <;> rfl

/-- The extended table is read back entry by entry (R207). -/
theorem encode_decodeCb : ∀ e : Byte, encode (decodeCb e) = [0xCB, e] := by decide +kernel

theorem encode_of_length_two {op : Byte} (h : instrLength op = 2) (b : Byte) : encode (decodeBytes op b 0) = [op, b] := by
  obtain himm | hdisp | rfl := opcode_of_length_two op h
  · exact encode_of_imm8 himm b
  · rw [encode_of_disp hdisp, e8Byte_of_toInt]
  · exact encode_decodeCb b

theorem encode_of_imm16 {op : Byte} (h : op ∈ imm16Opcodes) (b1 b2 : Byte) :
    encode (decodeBytes op b1 b2) = [op, lowByte (imm16 b1 b2), highByte (imm16 b1 b2)] := by
  fin_cases h <;> rfl

theorem encode_of_length_three {op : Byte} (h : instrLength op = 3) (b1 b2 : Byte) : encode (decodeBytes op b1 b2) = [op, b1, b2] := by
  rw [encode_of_imm16 (opcode_of_length_three op h), Machine.lowByte_imm16, Machine.highByte_imm16]

/-! ## The readings of a byte list -/

theorem decode_of_length_one {op : Byte} (h : instrLength op = 1) (rest : List Byte) :
    decode (op :: rest) = .ok (decodeBytes op 0 0, rest) := by
  simp [decode, h]

theorem decode_of_length_two {op : Byte} (h : instrLength op = 2) (b1 : Byte) (rest : List Byte) :
    decode (op :: b1 :: rest) = .ok (decodeBytes op b1 0, rest) := by
  simp [decode, h]

theorem decode_of_length_three {op : Byte} (h : instrLength op = 3) (b1 b2 : Byte) (rest : List Byte) :
    decode (op :: b1 :: b2 :: rest) = .ok (decodeBytes op b1 b2, rest) := by
  simp [decode, h]

/-- What is read encodes to the bytes it was read from: by the length of the instruction, as `decode` splits. -/
theorem encode_of_decode {bs rest : List Byte} {i : Instr} (h : decode bs = .ok (i, rest)) : encode i ++ rest = bs := by
  unfold decode at h
  split at h
  · cases h
  · split at h
    · next hlen =>
      cases h
      rw [encode_of_length_one _ hlen]
      rfl
    · next hlen =>
      cases h
      rw [encode_of_length_two hlen]
      rfl
    · next hlen =>
      cases h
      rw [encode_of_length_three hlen]
      rfl
    · cases h

end Sys2Proof

open Sys2Proof

/-- Settles O56: the direction of `decode_encode_iff` from well-formedness. -/
theorem decodingAnEncodingGivesItBack : Obligations.DecodingAnEncodingGivesItBack := by
  unfold Obligations.DecodingAnEncodingGivesItBack
  exact fun i rest hwf => (decode_encode_iff i rest).2 hwf

/-- Settles O57: what is read encodes to its own bytes (`encode_of_decode`), so these decode to it again and it is well formed (`decode_encode_iff`). -/
theorem everyByteSequenceHasOneReading : Obligations.EveryByteSequenceHasOneReading := by
  unfold Obligations.EveryByteSequenceHasOneReading
  refine ⟨fun bs rest i h => ?_, fun b0 b1 b2 rest => ?_⟩
  · have hbytes : encode i ++ rest = bs := encode_of_decode h
    exact ⟨(decode_encode_iff i rest).1 (hbytes ▸ h), hbytes⟩
  · obtain hlen | hlen | hlen := instrLength_cases b0
    · exact ⟨_, _, decode_of_length_one hlen _⟩
    · exact ⟨_, _, decode_of_length_two hlen _ _⟩
    · exact ⟨_, _, decode_of_length_three hlen _ _ _⟩

/-- Settles O58: the decoder evaluated on each word. -/
theorem someWordsDecodeAsTheSpecSays : Obligations.SomeWordsDecodeAsTheSpecSays := by
  unfold Obligations.SomeWordsDecodeAsTheSpecSays
  exact ⟨rfl, rfl, rfl, rfl, rfl, rfl, rfl, rfl⟩

end

section
/-! O24. An illegal opcode is fetched as any one-byte instruction, records itself with its address and ends the tick (spec/30_encoding.md R211, spec/45_system.md R600, R620). -/

namespace Sys2Proof.Machine

open Sys2Proof.Claims

/-- An illegal opcode is one byte, which decodes to its constructor and encodes it. -/
theorem illegal_bytes : ∀ p ∈ illegal, instrLength p.2 = 1 ∧ decodeBytes p.2 0 0 = p.1 ∧ encode p.1 = [p.2] := by decide +kernel

/-- The dispatch of a one-byte instruction, when HALT_REPEAT is clear (R601, R602). -/
theorem dispatchStart_of_length_one {s : State} (hrepeat : s.haltRepeat = false) (hlen : instrLength (busRead s s.regs.pc) = 1) :
    dispatchStart s =
      (decodeBytes (busRead s s.regs.pc) 0 0, { applyPending s with regs := { s.regs with pc := s.regs.pc + 1 }, opAddr := s.regs.pc }) := by
  rw [dispatchStart, fetchInstr_of_clear (by simpa using hrepeat)]
  simp [hlen]

theorem step_of_running {s : State} (hrun : (hostTurn s).run = .running) :
    step s = finish (exec (dispatchStart (hostTurn s)).1 (dispatchStart (hostTurn s)).2) := by
  simp [step, hrun]

/-- An illegal opcode ends the tick: no poll, no device (R620). -/
theorem finish_raiseIllegal (op : Byte) (s : State) : finish (.next (raiseIllegal op s)) = .next (raiseIllegal op s) := rfl

end Sys2Proof.Machine

open Sys2Proof.Machine Sys2Proof.Claims

/-- Settles O24: the fetch reads the one byte (`dispatchStart_of_length_one`), exec locks the core (`exec_illegal`), and a LOCKED core ends the tick and acts in none (`step_of_locked`). -/
theorem illegalOpcodesLockTheCore : Obligations.IllegalOpcodesLockTheCore := by
  unfold Obligations.IllegalOpcodesLockTheCore
  intro p hp s
  obtain ⟨hlen, hdecode, hencode⟩ := illegal_bytes p hp
  refine ⟨hencode, exec_illegal hp s, fun hrun hrepeat hread => ?_, fun hlocked t h => step_of_locked hlocked h⟩
  have hop : busRead (hostTurn s) (hostTurn s).regs.pc = p.2 := by rw [hostTurn_regs, hread]
  rw [step_of_running hrun, dispatchStart_of_length_one hrepeat (by rw [hop, hlen]), hop, hdecode, exec_illegal hp, finish_raiseIllegal,
    hostTurn_regs]
  rfl

end

section
/-! O1, O2, O3. The 8-bit loads (spec/40_loads.md R300-R316): each instruction runs the shared operation of its operands, whose next state is written out in the statements. -/

namespace Sys2Proof.Machine

open Sys2Proof.Claims

/-! ## LD between registers, memory at HL and immediates, by the registers they name -/

theorem encode_mkLdReg (dst src : Reg8) : encode (Instr.mkLdReg dst src) = [opcode 1 (regIndex dst) (regIndex src)] := by
  cases dst <;> cases src <;> rfl

theorem exec_mkLdReg (dst src : Reg8) (s : State) : exec (Instr.mkLdReg dst src) s = .next (ldRegReg dst src s) := by
  cases dst <;> cases src <;> rfl

theorem encode_mkLdRegAtHl (dst : Reg8) : encode (Instr.mkLdRegAtHl dst) = [opcode 1 (regIndex dst) 6] := by
  cases dst <;> rfl

theorem exec_mkLdRegAtHl (dst : Reg8) (s : State) : exec (Instr.mkLdRegAtHl dst) s = .next (ldRegAtHl dst s) := by
  cases dst <;> rfl

theorem encode_mkLdAtHlReg (src : Reg8) : encode (Instr.mkLdAtHlReg src) = [opcode 1 6 (regIndex src)] := by
  cases src <;> rfl

theorem exec_mkLdAtHlReg (src : Reg8) (s : State) : exec (Instr.mkLdAtHlReg src) s = .next (ldAtHlReg src s) := by
  cases src <;> rfl

theorem encode_mkLdRegN8 (dst : Reg8) (n : Byte) : encode (Instr.mkLdRegN8 dst n) = [opcode 0 (regIndex dst) 6, n] := by
  cases dst <;> rfl

theorem exec_mkLdRegN8 (dst : Reg8) (n : Byte) (s : State) : exec (Instr.mkLdRegN8 dst n) s = .next (ldRegN8 dst n s) := by
  cases dst <;> rfl

/-! ## Addresses -/

/-- The high-page address is 0xFF00 plus the byte (spec/30_encoding.md R202). -/
theorem highPage_eq_add (n : Byte) : highPage n = 0xFF00 + n.setWidth 16 := by
  have hn := n.isLt
  apply BitVec.eq_of_toNat_eq
  rw [highPage, imm16_toNat]
  bv_omega

theorem add_one_eq_ofNat (v : Word) : v + 1 = BitVec.ofNat 16 (v.toNat + 1) := by
  rw [BitVec.ofNat_add, BitVec.ofNat_toNat, BitVec.setWidth_eq]
  rfl

/-- A sum modulo 2^16 is the narrowed sum on exact integers (spec/00_scope.md R10). -/
theorem add_ofInt (v : Word) (e : Int) : v + BitVec.ofInt 16 e = BitVec.ofInt 16 (v.toNat + e) := by
  rw [BitVec.ofInt_add, BitVec.ofInt_natCast, BitVec.ofNat_toNat, BitVec.setWidth_eq]

theorem add_neg_one_eq_ofInt (v : Word) : v + (-1) = BitVec.ofInt 16 ((v.toNat : Int) - 1) := by
  have hone : (-1 : Word) = BitVec.ofInt 16 (-1) := rfl
  rw [hone, add_ofInt, sub_eq_add_neg]

end Sys2Proof.Machine

open Sys2Proof.Machine Sys2Proof.Claims

/-- Settles O1: each form runs its shared operation at every register (`exec_mkLdReg` and its neighbours). -/
theorem eightBitRegisterLoads : Obligations.EightBitRegisterLoads := by
  unfold Obligations.EightBitRegisterLoads
  intro dst src n s
  exact ⟨encode_mkLdReg dst src, exec_mkLdReg dst src s, encode_mkLdRegAtHl dst, exec_mkLdRegAtHl dst s,
    encode_mkLdAtHlReg src, exec_mkLdAtHlReg src s, encode_mkLdRegN8 dst n, exec_mkLdRegN8 dst n s, rfl, rfl⟩

/-- Settles O2: the ten forms run `ldAFrom` and `ldAInto` at the address of the statement, that of the high page by `highPage_eq_add`. -/
theorem loadAndStoreAccumulator : Obligations.LoadAndStoreAccumulator := by
  unfold Obligations.LoadAndStoreAccumulator
  intro a n s
  dsimp only
  rw [← highPage_eq_add, ← highPage_eq_add]
  and_intros <;> rfl

/-- Settles O3: the step of HL is by 1 or -1 modulo 2^16 (`add_one_eq_ofNat`, `add_neg_one_eq_ofInt`). -/
theorem loadAndStepHl : Obligations.LoadAndStepHl := by
  unfold Obligations.LoadAndStepHl
  intro s
  dsimp only
  rw [← add_one_eq_ofNat, ← add_neg_one_eq_ofInt]
  and_intros <;> rfl

end

section
/-! O4, O5. The 16-bit loads and the displacement added to SP (spec/40_loads.md R320-R323, spec/42_alu16.md R453). -/

namespace Sys2Proof.Machine

open Sys2Proof.Claims

theorem encode_mkLdPairN16 (p : Pair) (n : Word) :
    encode (Instr.mkLdPairN16 p n) = [opcode 0 (2 * pairIndex p) 1, lowByte n, highByte n] := by cases p <;> rfl

theorem exec_mkLdPairN16 (p : Pair) (n : Word) (s : State) : exec (Instr.mkLdPairN16 p n) s = .next (ldPairN16 p n s) := by
  cases p <;> rfl

/-- A displacement in range, sign-extended from its byte and added, is added on exact numbers (spec/30_encoding.md R202). -/
theorem add_signExtend_e8Byte (v : Word) {e : Int} (h : Disp.inRange e = true) :
    v + (e8Byte e).signExtend 16 = BitVec.ofInt 16 (v.toNat + e) := by
  rw [BitVec.signExtend, e8Byte_toInt e h, add_ofInt]

theorem inRange_of_le {e : Int} (hlo : -128 ≤ e) (hhi : e ≤ 127) : Disp.inRange e = true := by
  simp [Disp.inRange, hlo, hhi]

end Sys2Proof.Machine

open Sys2Proof.Machine Sys2Proof.Claims

/-- Settles O4: the pair load by its pairs (`exec_mkLdPairN16`), the two others by evaluation. -/
theorem loadPairsAndStoreSp : Obligations.LoadPairsAndStoreSp := by
  unfold Obligations.LoadPairsAndStoreSp
  intro p n a s
  exact ⟨encode_mkLdPairN16 p n, exec_mkLdPairN16 p n s, rfl, rfl, rfl, rfl⟩

/-- Settles O5: both forms write `addSpResult`, whose sum is the one on exact numbers (`add_signExtend_e8Byte`). -/
theorem addDisplacementToSp : Obligations.AddDisplacementToSp := by
  unfold Obligations.AddDisplacementToSp
  intro e s hlo hhi
  dsimp only
  rw [← add_signExtend_e8Byte s.regs.sp (inRange_of_le hlo hhi)]
  exact ⟨rfl, rfl, rfl, rfl⟩

end

section
/-! O7, O6. The stack (spec/40_loads.md R340-R343): what PUSH and POP of each pair do, and that a value pushed to two bytes of storage is popped again. -/

namespace Sys2Proof.Machine

open Sys2Proof.Claims

/-! ## PUSH and POP by the pair they name -/

theorem encode_mkPush (p : StackPair) : encode (Instr.mkPush p) = [opcode 3 (2 * stackIndex p) 5] := by cases p <;> rfl

theorem exec_mkPush (p : StackPair) (s : State) : exec (Instr.mkPush p) s = .next (pushPair p s) := by cases p <;> rfl

theorem encode_mkPop (p : StackPair) : encode (Instr.mkPop p) = [opcode 3 (2 * stackIndex p) 1] := by cases p <;> rfl

theorem exec_mkPop (p : StackPair) (s : State) : exec (Instr.mkPop p) s = .next (popPair p s) := by cases p <;> rfl

/-- The byte above a push's new SP is the one below its old SP. -/
theorem sub_two_add_one (v : Word) : v - 2 + 1 = v - 1 := by bv_omega

theorem push16_eq_push (s : State) (v : Word) : push16 s v = push s v := by
  rw [push16, busWrite16, sub_two_add_one]
  rfl

theorem popValue_eq_top (s : State) : popValue s = top s := rfl

/-! ## A pair of the stack as a value -/

/-- A 16-bit value is its high byte before its low byte. -/
theorem imm16_eq_append (lo hi : Byte) : imm16 lo hi = hi ++ lo := by
  apply BitVec.eq_of_toNat_eq
  rw [imm16_toNat, BitVec.toNat_append, ← Nat.shiftLeft_add_eq_or_of_lt lo.isLt, Nat.shiftLeft_eq]
  omega

/-- Clearing the low nibble of the low byte clears that of the value. -/
theorem imm16_lowNibble (lo hi : Byte) : imm16 (lo &&& 0xF0) hi = imm16 lo hi &&& 0xFFF0 := by
  have hmask : (0xFFF0 : Word) = BitVec.allOnes 8 ++ (0xF0 : Byte) := rfl
  rw [imm16_eq_append, imm16_eq_append, hmask, BitVec.and_append, BitVec.and_allOnes]

/-- The flags a popped AF holds are bits 7 to 4 of its value (R343). -/
theorem Flags.ofByte_lowByte (v : Word) :
    Flags.ofByte (lowByte v) = ⟨v.getLsbD 7, v.getLsbD 6, v.getLsbD 5, v.getLsbD 4⟩ := by
  simp [Flags.ofByte, lowByte]

theorem State.setStackPair_eq_restore (s : State) (p : StackPair) (v : Word) : s.setStackPair p v = restore s p v := by
  cases p with
  | bc | de | hl => rfl
  | af => simp only [State.setStackPair, restore, Flags.ofByte_lowByte]

/-- AF as it is pushed is 256 * A plus the flag byte (R342). -/
theorem State.stackPair_af_toNat (s : State) :
    (s.stackPair .af).toNat = 256 * s.regs.a.toNat +
      (128 * s.regs.f.z.toNat + 64 * s.regs.f.n.toNat + 32 * s.regs.f.h.toNat + 16 * s.regs.f.c.toNat) := by
  have hz := s.regs.f.z.toNat_le
  have hn := s.regs.f.n.toNat_le
  have hh := s.regs.f.h.toNat_le
  have hc := s.regs.f.c.toNat_le
  simp only [State.stackPair, imm16_toNat, Flags.toByte, BitVec.toNat_ofNat]
  omega

/-- A pair of the stack reads back what was written to it, AF without F's low nibble (R343). -/
theorem State.stackPair_setStackPair (s : State) (q : StackPair) (v : Word) :
    (s.setStackPair q v).stackPair q = if q = .af then v &&& 0xFFF0 else v := by
  cases q with
  | bc => exact s.pair_setPair_same .bc v
  | de => exact s.pair_setPair_same .de v
  | hl => exact s.pair_setPair_same .hl v
  | af =>
    change imm16 (Flags.ofByte (lowByte v)).toByte (highByte v) = v &&& 0xFFF0
    rw [Flags.toByte_ofByte, imm16_lowNibble, imm16_bytes]

theorem State.stackPair_took (s : State) (p : StackPair) (k : Nat) : (s.took k).stackPair p = s.stackPair p := rfl

theorem popPair_stackPair (q : StackPair) (s : State) :
    (popPair q s).stackPair q = if q = .af then top s &&& 0xFFF0 else top s := by
  rw [popPair, State.stackPair_took, State.stackPair_setStackPair, popValue_eq_top]

theorem popPair_sp (q : StackPair) (s : State) : (popPair q s).regs.sp = s.regs.sp + 2 := by
  simp [popPair, popped]

theorem pushPair_sp (p : StackPair) (s : State) : (pushPair p s).regs.sp = s.regs.sp - 2 := by
  simp [pushPair]

/-! ## Neighbouring bytes are two cells -/

/-- Every range of plain storage starts at an even address, so a byte's index has the parity of its address (spec/20_memory.md R120, R121). -/
theorem storage_index_parity {n k : Nat} {r : Region} (h : storage n = some (r, k)) : k % 2 = n % 2 := by
  unfold storage at h
  split_ifs at h
  all_goals
    cases h
    omega

/-- Neighbouring bytes of plain storage are two cells. -/
theorem storage_succ_ne {n : Nat} {x : Region × Nat} (h : storage n = some x) : storage (n + 1) ≠ some x := by
  intro h'
  have hn := storage_index_parity h
  have hnext := storage_index_parity h'
  omega

theorem storage_ne_cartRam (n k : Nat) : storage n ≠ some (.cartRam, k) := by
  unfold storage
  split_ifs <;> simp

/-- Successive numbers agree modulo a size only when the size is 1. -/
theorem mod_succ_ne {size : Nat} (h : size ≠ 1) (k : Nat) : (k + 1) % size ≠ k % size := by
  intro heq
  have hdvd : size ∣ k + 1 - k := (Nat.modEq_iff_dvd' k.le_succ).1 heq.symm
  rw [Nat.add_sub_cancel_left] at hdvd
  exact h (Nat.dvd_one.1 hdvd)

/-- Neighbouring bytes of external RAM are two bytes of it, when it is not of one byte (R157). -/
theorem Cart.ramOffset_succ_ne {c : Cart} (hsize : c.ramSize ≠ 1) {n k : Nat} (hn : 0xA000 ≤ n) (h : c.ramOffset n = some k) :
    c.ramOffset (n + 1) ≠ some k := by
  cases hkind : c.kind with
  | romOnly =>
    rw [Cart.ramOffset_of_romOnly hkind] at h
    cases h
  | mbc1 =>
    by_cases hclosed : c.ramEn = false ∨ c.ramSize = 0
    · rw [Cart.ramOffset_of_closed hkind hclosed] at h
      cases h
    · obtain ⟨hen, hne⟩ := not_or.1 hclosed
      have hopen := Cart.ramOffset_of_open hkind (Bool.not_eq_false _ ▸ hen) hne
      have hnext : c.ramBank * 0x2000 + (n + 1 - 0xA000) = c.ramBank * 0x2000 + (n - 0xA000) + 1 := by omega
      rw [hopen] at h
      rw [hopen, hnext, ← h, ne_eq, Option.some.injEq]
      exact mod_succ_ne hsize _

/-- Neighbouring addresses name two cells, when external RAM is not of one byte: in the RAM window, at its two ends and outside it. -/
theorem cellAt_succ_ne {c : Cart} (hsize : c.ramSize ≠ 1) {n : Nat} {x : Region × Nat} (h : cellAt c n = some x) :
    cellAt c (n + 1) ≠ some x := by
  by_cases hn : 0xA000 ≤ n ∧ n < 0xC000
  · rw [cellAt_ramWindow c hn.1 hn.2] at h
    obtain ⟨k, hk, rfl⟩ := Option.map_eq_some_iff.1 h
    by_cases hend : n + 1 < 0xC000
    · rw [cellAt_ramWindow c (by omega) hend]
      intro h'
      obtain ⟨j, hj, hjk⟩ := Option.map_eq_some_iff.1 h'
      cases hjk
      exact Cart.ramOffset_succ_ne hsize hn.1 hk hj
    · rw [cellAt, if_neg (by omega)]
      exact storage_ne_cartRam _ k
  · rw [cellAt, if_neg hn] at h
    by_cases hstart : n + 1 = 0xA000
    · rw [hstart, cellAt_ramWindow c (by omega) (by omega)]
      intro h'
      obtain ⟨k, -, rfl⟩ := Option.map_eq_some_iff.1 h'
      exact storage_ne_cartRam n k h
    · rw [cellAt, if_neg (by omega)]
      exact storage_succ_ne h

/-- No memory cell answers at the last address. -/
theorem cellAt_last (c : Cart) : cellAt c 0xFFFF = none := rfl

/-- The byte after one of storage is another cell, on the bus. -/
theorem resolve_succ_ne {c : Cart} (hsize : c.ramSize ≠ 1) {a : Addr} {r : Region} {k : Nat} (h : resolve c a = .cell r k) :
    resolve c (a + 1) ≠ .cell r k := by
  rw [resolve_eq_cell_iff] at h
  rw [ne_eq, resolve_eq_cell_iff]
  have hlast : a.toNat ≠ 0xFFFF := by
    intro he
    rw [he, cellAt_last] at h
    cases h
  have hsucc : (a + 1).toNat = a.toNat + 1 := by bv_omega
  rw [hsucc]
  exact cellAt_succ_ne hsize h

/-- A 16-bit value written to two cells of storage is read back (R102). -/
theorem busRead16_busWrite16 {s : State} (hwf : s.mem.wf) (hsize : s.cart.ramSize ≠ 1) {a : Addr}
    (ha : (cellAt s.cart a.toNat).isSome = true) (hb : (cellAt s.cart (a + 1).toNat).isSome = true) (v : Word) :
    busRead16 (busWrite16 s a v) a = v := by
  obtain ⟨⟨r, k⟩, ha⟩ := Option.isSome_iff_exists.1 ha
  obtain ⟨⟨q, j⟩, hb⟩ := Option.isSome_iff_exists.1 hb
  rw [← resolve_eq_cell_iff] at ha hb
  have hne : resolve s.cart a ≠ .cell q j := fun he => resolve_succ_ne hsize he hb
  have hcart : (busWrite s a (lowByte v)).cart = s.cart := by rw [busWrite_of_cell ha]
  have hwf' : (busWrite s a (lowByte v)).mem.wf := busWrite_wf hwf ..
  unfold busRead16 busWrite16
  rw [busRead_busWrite_other hwf' (by rwa [hcart]) (by rwa [hcart]), busRead_busWrite_same hwf ha ha,
    busRead_busWrite_same hwf' (by rwa [hcart]) (by rwa [hcart]), imm16_bytes]

/-- A value pushed to two cells of storage is on top of the stack. -/
theorem top_push16 {s : State} (hwf : s.mem.wf) (hsize : s.cart.ramSize ≠ 1)
    (hlo : (cellAt s.cart (s.regs.sp - 2).toNat).isSome = true) (hhi : (cellAt s.cart (s.regs.sp - 1).toNat).isSome = true)
    (v : Word) : top (push16 s v) = v := by
  rw [← popValue_eq_top, popValue, push16_regs]
  exact busRead16_busWrite16 (s := s.setSp (s.regs.sp - 2)) hwf hsize hlo (sub_two_add_one s.regs.sp ▸ hhi) v

theorem top_took (s : State) (k : Nat) : top (s.took k) = top s := by
  simp [top]

end Sys2Proof.Machine

open Sys2Proof.Machine Sys2Proof.Claims

/-- Settles O7: the push leaves the value in two cells that are not one (`top_push16`), and the pop takes it from there (`popPair_stackPair`). -/
theorem pushThenPopGivesTheValueBack : Obligations.PushThenPopGivesTheValueBack := by
  unfold Obligations.PushThenPopGivesTheValueBack
  intro p q s hwf hsize hlo hhi
  have htop : top (pushPair p s) = s.stackPair p := by rw [pushPair, top_took, top_push16 hwf hsize hlo hhi]
  refine ⟨pushPair p s, popPair q (pushPair p s), exec_mkPush p s, exec_mkPop q _, htop, ?_, ?_⟩
  · rw [popPair_sp, pushPair_sp, BitVec.sub_add_cancel]
  · rw [popPair_stackPair, htop]

/-- Settles O6: both instructions run the shared operation of their pair (`exec_mkPush`, `exec_mkPop`), whose parts are those of the statement. -/
theorem pushAndPop : Obligations.PushAndPop := by
  unfold Obligations.PushAndPop
  intro p s
  refine ⟨encode_mkPush p, ?_, rfl, rfl, rfl, s.stackPair_af_toNat, encode_mkPop p, ?_⟩
  · rw [exec_mkPush, pushPair, push16_eq_push]
    rfl
  · rw [exec_mkPop, popPair, State.setStackPair_eq_restore, popValue_eq_top]
    rfl

end

section
/-! O8, O9, O10, O11, O12, O13. 8-bit arithmetic and logic (spec/41_alu8.md R402-R416): the narrowed results and the flags of the model, as the exact numbers of the statements. -/

namespace Sys2Proof.Machine

open Sys2Proof.Claims

/-! ## The operand of an entry of r8 -/

theorem readR8_eq_operand (s : State) (t : R8) : readR8 s t = operand s t := by cases t <;> rfl

theorem writeR8_eq_put (s : State) (t : R8) (v : Byte) : writeR8 s t v = put s t v := by cases t <;> rfl

theorem r8Cost_eq_cost (t : R8) (k m : Nat) : r8Cost t k m = cost t k m := by cases t <;> rfl

/-! ## The instructions by their operation and operand -/

/-- An ALU operation's index in its table (spec/30_encoding.md R206). -/
def aluIndex (op : AluOp) : Nat :=
  match op with
  | .add => 0
  | .adc => 1
  | .sub => 2
  | .sbc => 3
  | .and => 4
  | .xor => 5
  | .or => 6
  | .cp => 7

theorem encode_mkAlu (op : AluOp) (t : R8) : encode (Instr.mkAlu op t) = [opcode 2 (aluIndex op) (slot t)] := by
  cases t with
  | reg r => cases op <;> cases r <;> rfl
  | atHl => cases op <;> rfl

theorem exec_mkAlu (op : AluOp) (t : R8) (s : State) :
    exec (Instr.mkAlu op t) s = .next (aluWith op (operand s t) (cost t 4 8) s) := by
  cases t with
  | reg r => cases op <;> cases r <;> rfl
  | atHl => cases op <;> rfl

theorem exec_mkAlu_of_aluWith {op : AluOp} {t : R8} {s u : State} (h : aluWith op (operand s t) (cost t 4 8) s = u) :
    exec (Instr.mkAlu op t) s = .next u := by rw [exec_mkAlu, h]

theorem encode_mkAluN8 (op : AluOp) (n : Byte) : encode (Instr.mkAluN8 op n) = [opcode 3 (aluIndex op) 6, n] := by
  cases op <;> rfl

theorem exec_mkAluN8 (op : AluOp) (n : Byte) (s : State) : exec (Instr.mkAluN8 op n) s = .next (aluWith op n 8 s) := by
  cases op <;> rfl

theorem exec_mkAluN8_of_aluWith {op : AluOp} {n : Byte} {s u : State} (h : aluWith op n 8 s = u) :
    exec (Instr.mkAluN8 op n) s = .next u := by rw [exec_mkAluN8, h]

theorem encode_mkInc8 (t : R8) : encode (Instr.mkInc8 t) = [opcode 0 (slot t) 4] := by
  cases t with
  | reg r => cases r <;> rfl
  | atHl => rfl

theorem exec_mkInc8 (t : R8) (s : State) : exec (Instr.mkInc8 t) s = .next (incR8 t s) := by
  cases t with
  | reg r => cases r <;> rfl
  | atHl => rfl

theorem encode_mkDec8 (t : R8) : encode (Instr.mkDec8 t) = [opcode 0 (slot t) 5] := by
  cases t with
  | reg r => cases r <;> rfl
  | atHl => rfl

theorem exec_mkDec8 (t : R8) (s : State) : exec (Instr.mkDec8 t) s = .next (decR8 t s) := by
  cases t with
  | reg r => cases r <;> rfl
  | atHl => rfl

/-! ## Narrowing -/

/-- FZ of a narrowed result, on the exact integer (spec/00_scope.md R10). -/
theorem trunc8_beq_zero (v : Int) : (trunc8 v == 0) = decide (v % 256 = 0) := by
  have hzero : trunc8 v = 0 ↔ v % 256 = 0 := by
    rw [trunc8, BitVec.toNat_eq, BitVec.toNat_ofInt]
    simp only [BitVec.ofNat_eq_ofNat, BitVec.toNat_ofNat]
    omega
  rw [Bool.beq_eq_decide_eq, decide_eq_decide.2 hzero]

theorem trunc8_natCast (n : Nat) : trunc8 n = BitVec.ofNat 8 n := BitVec.ofInt_natCast ..

/-- FZ of a narrowed natural number. -/
theorem ofNat_beq_zero (n : Nat) : (BitVec.ofNat 8 n == 0) = decide (n % 256 = 0) := by
  rw [← trunc8_natCast, trunc8_beq_zero, decide_eq_decide]
  omega

/-! ## The ALU operations on A (R403-R410) -/

/-- Writing A, the flags and the cycle count is the whole effect of an ALU operation. -/
theorem aluWith_eq_setAF (op : AluOp) (v : Byte) (k : Nat) (s : State) :
    aluWith op v k s = setAF s (aluResult op s.regs.a v s.regs.f.c).1 (aluResult op s.regs.a v s.regs.f.c).2 k := rfl

theorem setAF_addFlags (s : State) (v : Byte) (c : Bool) (k : Nat) :
    setAF s (addFlags s.regs.a v c).1 (addFlags s.regs.a v c).2 k = added s v c.toNat k := by
  have hsum : ((s.regs.a.toNat : Int) + v.toNat + c.toNat) = ((s.regs.a.toNat + v.toNat + c.toNat : Nat) : Int) := rfl
  simp only [addFlags, added, hsum, trunc8_natCast, ofNat_beq_zero]
  rfl

theorem subFlags_eq (s : State) (v : Byte) (c : Bool) :
    subFlags s.regs.a v c = (BitVec.ofInt 8 ((s.regs.a.toNat : Int) - v.toNat - c.toNat), subtractedFlags s v c.toNat) := by
  simp only [subFlags, subtractedFlags, trunc8_beq_zero]
  rfl

theorem aluWith_add (v : Byte) (k : Nat) (s : State) : aluWith .add v k s = added s v 0 k := setAF_addFlags s v false k

theorem aluWith_adc (v : Byte) (k : Nat) (s : State) : aluWith .adc v k s = added s v s.regs.f.c.toNat k := setAF_addFlags ..

theorem setAF_subFlags (s : State) (v : Byte) (c : Bool) (k : Nat) :
    setAF s (subFlags s.regs.a v c).1 (subFlags s.regs.a v c).2 k = subtracted s v c.toNat k := by
  rw [subFlags_eq, subtracted]

theorem aluWith_sub (v : Byte) (k : Nat) (s : State) : aluWith .sub v k s = subtracted s v 0 k :=
  setAF_subFlags s v false k

theorem aluWith_sbc (v : Byte) (k : Nat) (s : State) : aluWith .sbc v k s = subtracted s v s.regs.f.c.toNat k :=
  setAF_subFlags ..

/-- CP writes the flags of SUB, and A over itself. -/
theorem aluWith_cp (v : Byte) (k : Nat) (s : State) : aluWith .cp v k s = setF s (subtractedFlags s v 0) k := by
  rw [aluWith_eq_setAF, aluResult, subFlags_eq]
  rfl

theorem setAF_logicFlags (s : State) (r : Byte) (h : Bool) (k : Nat) :
    setAF s (logicFlags r h).1 (logicFlags r h).2 k = logical s r h k := by
  rw [logicFlags, Bool.beq_eq_decide_eq, logical]

theorem aluWith_and (v : Byte) (k : Nat) (s : State) : aluWith .and v k s = logical s (s.regs.a &&& v) true k :=
  setAF_logicFlags ..

theorem aluWith_xor (v : Byte) (k : Nat) (s : State) : aluWith .xor v k s = logical s (s.regs.a ^^^ v) false k :=
  setAF_logicFlags ..

theorem aluWith_or (v : Byte) (k : Nat) (s : State) : aluWith .or v k s = logical s (s.regs.a ||| v) false k :=
  setAF_logicFlags ..

/-! ## INC and DEC of a byte (R411, R412) -/

theorem incResult_eq (v : Byte) (f : Flags) :
    incResult v f = (BitVec.ofNat 8 (v.toNat + 1), ⟨decide ((v.toNat + 1) % 256 = 0), false, decide (v.toNat % 16 = 15), f.c⟩) := by
  have hsum : ((v.toNat : Int) + 1) = ((v.toNat + 1 : Nat) : Int) := rfl
  simp only [incResult, hsum, trunc8_natCast, ofNat_beq_zero]
  rfl

/-- Subtracting 1 from a byte is adding 255 to it, and gives 0 from 1 alone. -/
theorem decResult_eq (v : Byte) (f : Flags) :
    decResult v f = (BitVec.ofNat 8 (v.toNat + 255), ⟨decide (v.toNat = 1), true, decide (v.toNat % 16 = 0), f.c⟩) := by
  have hv := v.isLt
  have hvalue : trunc8 ((v.toNat : Int) - 1) = BitVec.ofNat 8 (v.toNat + 255) := by
    apply BitVec.eq_of_toNat_eq
    rw [trunc8, BitVec.toNat_ofInt, BitVec.toNat_ofNat]
    omega
  have hzero : (v.toNat + 255) % 256 = 0 ↔ v.toNat = 1 := by omega
  simp only [decResult, hvalue, ofNat_beq_zero, hzero]
  rfl

theorem incR8_eq (t : R8) (s : State) :
    incR8 t s = setF (put s t (incResult (operand s t) s.regs.f).1) (incResult (operand s t) s.regs.f).2 (cost t 4 12) := by
  rw [incR8, readR8_eq_operand, writeR8_eq_put, r8Cost_eq_cost]
  rfl

theorem decR8_eq (t : R8) (s : State) :
    decR8 t s = setF (put s t (decResult (operand s t) s.regs.f).1) (decResult (operand s t) s.regs.f).2 (cost t 4 12) := by
  rw [decR8, readR8_eq_operand, writeR8_eq_put, r8Cost_eq_cost]
  rfl

/-! ## DAA and the complement (R413, R414) -/

/-- A correction that is made or not, as a product. -/
theorem ite_zero_eq_mul_toNat (b : Bool) (k : Int) : (if b then k else 0) = k * b.toNat := by cases b <;> simp

theorem daaAdjust_of_subtraction {f : Flags} (h : f.n = true) (a : Byte) :
    daaAdjust a f = ((a.toNat : Int) - (0x60 * f.c.toNat + 0x06 * f.h.toNat), f.c) := by
  simp only [daaAdjust, h, ite_zero_eq_mul_toNat, if_true, sub_sub]

theorem daaAdjust_of_addition {f : Flags} (h : f.n = false) (a : Byte) :
    daaAdjust a f =
      ((a.toNat : Int) + (0x60 * (f.c || decide ((a.toNat : Int) > 0x99)).toNat + 0x06 * (f.h || decide ((a.toNat : Int) % 16 > 9)).toNat),
        f.c || decide ((a.toNat : Int) > 0x99)) := by
  have hhigh : decide (a.toNat > 0x99) = decide ((a.toNat : Int) > 0x99) := decide_eq_decide.2 (by omega)
  have hlow : decide (lowNibble a > 0x09) = decide ((a.toNat : Int) % 16 > 9) := decide_eq_decide.2 (by rw [lowNibble]; omega)
  simp only [daaAdjust, h, hhigh, hlow, ite_zero_eq_mul_toNat, Bool.false_eq_true, if_false, add_assoc]

theorem execDaa_eq (s : State) :
    execDaa s = .next (setAF s (BitVec.ofInt 8 (daaAdjust s.regs.a s.regs.f).1)
      ⟨decide ((daaAdjust s.regs.a s.regs.f).1 % 256 = 0), s.regs.f.n, false, (daaAdjust s.regs.a s.regs.f).2⟩ 4) := by
  rw [← trunc8_beq_zero]
  rfl

theorem not_eq_ofNat (v : Byte) : ~~~v = BitVec.ofNat 8 (255 - v.toNat) := by
  apply BitVec.eq_of_toNat_eq
  rw [BitVec.toNat_not, BitVec.toNat_ofNat]
  omega

end Sys2Proof.Machine

open Sys2Proof.Machine Sys2Proof.Claims

/-- Settles O8: both forms run the ALU operation (`exec_mkAlu`, `exec_mkAluN8`), which is the sum of the statement (`aluWith_add`, `aluWith_adc`). -/
theorem addAndAddWithCarry : Obligations.AddAndAddWithCarry := by
  unfold Obligations.AddAndAddWithCarry
  intro t n s
  exact ⟨encode_mkAlu .add t, exec_mkAlu_of_aluWith (aluWith_add ..),
    encode_mkAlu .adc t, exec_mkAlu_of_aluWith (aluWith_adc ..),
    encode_mkAluN8 .add n, exec_mkAluN8_of_aluWith (aluWith_add ..),
    encode_mkAluN8 .adc n, exec_mkAluN8_of_aluWith (aluWith_adc ..)⟩

/-- Settles O9: as O8, with `aluWith_sub`, `aluWith_sbc` and `aluWith_cp`. -/
theorem subtractAndCompare : Obligations.SubtractAndCompare := by
  unfold Obligations.SubtractAndCompare
  intro t n s
  exact ⟨encode_mkAlu .sub t, exec_mkAlu_of_aluWith (aluWith_sub ..),
    encode_mkAlu .sbc t, exec_mkAlu_of_aluWith (aluWith_sbc ..),
    encode_mkAlu .cp t, exec_mkAlu_of_aluWith (aluWith_cp ..),
    encode_mkAluN8 .sub n, exec_mkAluN8_of_aluWith (aluWith_sub ..),
    encode_mkAluN8 .sbc n, exec_mkAluN8_of_aluWith (aluWith_sbc ..),
    encode_mkAluN8 .cp n, exec_mkAluN8_of_aluWith (aluWith_cp ..)⟩

/-- Settles O10: as O8, with `aluWith_and`, `aluWith_xor` and `aluWith_or`. -/
theorem logicOperations : Obligations.LogicOperations := by
  unfold Obligations.LogicOperations
  intro t n s
  exact ⟨encode_mkAlu .and t, exec_mkAlu_of_aluWith (aluWith_and ..),
    encode_mkAlu .xor t, exec_mkAlu_of_aluWith (aluWith_xor ..),
    encode_mkAlu .or t, exec_mkAlu_of_aluWith (aluWith_or ..),
    encode_mkAluN8 .and n, exec_mkAluN8_of_aluWith (aluWith_and ..),
    encode_mkAluN8 .xor n, exec_mkAluN8_of_aluWith (aluWith_xor ..),
    encode_mkAluN8 .or n, exec_mkAluN8_of_aluWith (aluWith_or ..)⟩

/-- Settles O11: both instructions write their result and its flags (`incR8_eq`, `decR8_eq`), the numbers of the statement (`incResult_eq`, `decResult_eq`). -/
theorem incrementAndDecrementByte : Obligations.IncrementAndDecrementByte := by
  unfold Obligations.IncrementAndDecrementByte
  intro t s
  refine ⟨encode_mkInc8 t, ?_, encode_mkDec8 t, ?_⟩
  · rw [exec_mkInc8, incR8_eq, incResult_eq]
  · rw [exec_mkDec8, decR8_eq, decResult_eq]

/-- Settles O12: DAA writes the adjusted value (`execDaa_eq`), that after a subtraction or that after an addition by FN. -/
theorem decimalAdjust : Obligations.DecimalAdjust := by
  unfold Obligations.DecimalAdjust
  intro s
  refine ⟨rfl, (execDaa_eq s).trans ?_⟩
  cases hn : s.regs.f.n with
  | true => simp [daaAdjust_of_subtraction hn]
  | false => simp [daaAdjust_of_addition hn]

/-- Settles O13: the complement of A is 255 - A (`not_eq_ofNat`), the rest by evaluation. -/
theorem complementAndCarryFlag : Obligations.ComplementAndCarryFlag := by
  unfold Obligations.ComplementAndCarryFlag
  intro s
  rw [← not_eq_ofNat]
  exact ⟨rfl, rfl, rfl, rfl, rfl, rfl⟩

end

section
/-! O14. The 16-bit arithmetic on the pairs (spec/42_alu16.md R450-R452): each instruction runs the shared operation of its pair, whose value and flags are those on exact numbers. -/

namespace Sys2Proof.Machine

open Sys2Proof.Claims

/-! ## INC, DEC and ADD HL by the pair they name -/

theorem encode_mkIncPair (p : Pair) : encode (Instr.mkIncPair p) = [opcode 0 (2 * pairIndex p) 3] := by cases p <;> rfl

theorem exec_mkIncPair (p : Pair) (s : State) : exec (Instr.mkIncPair p) s = .next (incPair p s) := by cases p <;> rfl

theorem encode_mkDecPair (p : Pair) : encode (Instr.mkDecPair p) = [opcode 0 (2 * pairIndex p + 1) 3] := by cases p <;> rfl

theorem exec_mkDecPair (p : Pair) (s : State) : exec (Instr.mkDecPair p) s = .next (decPair p s) := by cases p <;> rfl

theorem encode_mkAddHl (p : Pair) : encode (Instr.mkAddHl p) = [opcode 0 (2 * pairIndex p + 1) 1] := by cases p <;> rfl

theorem exec_mkAddHl (p : Pair) (s : State) : exec (Instr.mkAddHl p) s = .next (addHl p s) := by cases p <;> rfl

/-! ## The shared operations on exact numbers -/

theorem incPair_eq (p : Pair) (s : State) :
    incPair p s = { s.setPair p (BitVec.ofNat 16 ((s.pair p).toNat + 1)) with cycles := 8 } := by
  rw [incPair, add_one_eq_ofNat, State.took]

theorem decPair_eq (p : Pair) (s : State) :
    decPair p s = { s.setPair p (BitVec.ofInt 16 ((s.pair p).toNat - 1)) with cycles := 8 } := by
  rw [decPair, sub_eq_add_neg, add_neg_one_eq_ofInt, State.took]

/-- The value of ADD HL,rr is the natural sum modulo 2^16, its flags the carries out of bits 11 and 15 (R452). -/
theorem addHlResult_eq (hl rr : Word) (f : Flags) :
    addHlResult hl rr f =
      (BitVec.ofNat 16 (hl.toNat + rr.toNat),
        ⟨f.z, false, decide (hl.toNat % 4096 + rr.toNat % 4096 > 4095), decide (hl.toNat + rr.toNat > 65535)⟩) := by
  rw [addHlResult, trunc16, ← Int.natCast_add, BitVec.ofInt_natCast]

theorem addHl_eq (p : Pair) (s : State) :
    addHl p s = setF (s.setPair .hl (addHlResult (s.pair .hl) (s.pair p) s.regs.f).1)
      (addHlResult (s.pair .hl) (s.pair p) s.regs.f).2 8 := rfl

end Sys2Proof.Machine

open Sys2Proof.Machine Sys2Proof.Claims

/-- Settles O14: each form runs the operation of its pair (`exec_mkIncPair` and its neighbours), which is the statement's on exact numbers (`incPair_eq`, `decPair_eq`, `addHlResult_eq`). -/
theorem pairArithmetic : Obligations.PairArithmetic := by
  unfold Obligations.PairArithmetic
  intro p s
  refine ⟨encode_mkIncPair p, ?_, encode_mkDecPair p, ?_, encode_mkAddHl p, ?_⟩
  · rw [exec_mkIncPair, incPair_eq]
  · rw [exec_mkDecPair, decPair_eq]
  · rw [exec_mkAddHl, addHl_eq, addHlResult_eq]

end

section
/-! O15, O16, O17. Control transfer (spec/43_control.md R500-R512): each instruction runs the shared operation of its condition or target, whose next state is the one the statements write out. -/

namespace Sys2Proof.Machine

open Sys2Proof.Claims

/-! ## The conditional forms and RST, by the condition or target they name -/

theorem encode_mkJp (cc : Cond) (a : Addr) : encode (Instr.mkJp cc a) = [opcode 3 (condIndex cc) 2, lowByte a, highByte a] := by
  cases cc <;> rfl

theorem exec_mkJp (cc : Cond) (a : Addr) (s : State) : exec (Instr.mkJp cc a) s = .next (jpCond cc a s) := by cases cc <;> rfl

theorem encode_mkJr (cc : Cond) (e : Int) : encode (Instr.mkJr cc e) = [opcode 0 (4 + condIndex cc) 0, e8Byte e] := by
  cases cc <;> rfl

theorem exec_mkJr (cc : Cond) (e : Int) (s : State) : exec (Instr.mkJr cc e) s = .next (jrCond cc (e8Byte e) s) := by
  cases cc <;> rfl

theorem encode_mkCall (cc : Cond) (a : Addr) : encode (Instr.mkCall cc a) = [opcode 3 (condIndex cc) 4, lowByte a, highByte a] := by
  cases cc <;> rfl

theorem exec_mkCall (cc : Cond) (a : Addr) (s : State) : exec (Instr.mkCall cc a) s = .next (callCond cc a s) := by
  cases cc <;> rfl

theorem encode_mkRet (cc : Cond) : encode (Instr.mkRet cc) = [opcode 3 (condIndex cc) 0] := by cases cc <;> rfl

theorem exec_mkRet (cc : Cond) (s : State) : exec (Instr.mkRet cc) s = .next (retCond cc s) := by cases cc <;> rfl

theorem encode_mkRst (y : Fin 8) : encode (Instr.mkRst y) = [opcode 3 y.val 7] := by fin_cases y <;> rfl

theorem exec_mkRst (y : Fin 8) (s : State) :
    exec (Instr.mkRst y) s = .next (callTo (BitVec.ofNat 16 (8 * y.val)) 16 s) := by fin_cases y <;> rfl

/-! ## The shared operations, as the states of the statements -/

/-- A displacement in range is added to PC on exact numbers (R504). -/
theorem relTarget_e8Byte (pc : Addr) {e : Int} (hlo : -128 ≤ e) (hhi : e ≤ 127) :
    relTarget pc (e8Byte e) = BitVec.ofInt 16 (pc.toNat + e) :=
  add_signExtend_e8Byte pc (inRange_of_le hlo hhi)

/-- A call changes what the push of PC writes, SP and PC (R506). -/
theorem callTo_eq (a : Addr) (k : Nat) (s : State) :
    callTo a k s = { push s s.regs.pc with regs := { s.regs with sp := s.regs.sp - 2, pc := a }, cycles := k } := by
  rw [← push16_eq_push, callTo, State.took, State.setPc, push16_regs]

end Sys2Proof.Machine

open Sys2Proof.Machine Sys2Proof.Claims

/-- Settles O15: the conditional forms by their condition (`exec_mkJp`, `exec_mkJr`), the relative target on exact numbers (`relTarget_e8Byte`). -/
theorem jumps : Obligations.Jumps := by
  unfold Obligations.Jumps
  intro cc a e s hlo hhi
  dsimp only
  rw [holds_eq_condHolds, ← relTarget_e8Byte s.regs.pc hlo hhi]
  exact ⟨rfl, rfl, encode_mkJp cc a, exec_mkJp cc a s, rfl, rfl, rfl, rfl, encode_mkJr cc e, exec_mkJr cc e s⟩

/-- Settles O16: every form is a call (`exec_mkCall`, `exec_mkRst`), whose next state is that of the statement (`callTo_eq`). -/
theorem callsAndRestarts : Obligations.CallsAndRestarts := by
  unfold Obligations.CallsAndRestarts
  intro cc y a s
  dsimp only
  rw [holds_eq_condHolds, ← callTo_eq, ← callTo_eq]
  exact ⟨rfl, rfl, encode_mkCall cc a, exec_mkCall cc a s, encode_mkRst y, exec_mkRst y s⟩

/-- Settles O17: RET cc by its condition (`exec_mkRet`); a return sets PC to the top of the stack and raises SP by definition. -/
theorem returns : Obligations.Returns := by
  unfold Obligations.Returns
  intro cc s
  dsimp only
  rw [holds_eq_condHolds]
  exact ⟨rfl, rfl, encode_mkRet cc, exec_mkRet cc s, rfl, rfl⟩

end

section
/-! O19, O20, O18. Rotates, shifts and bit operations (spec/44_bitops.md R550-R565): each instruction runs the shared operation of its fields, whose shifts and masks are the sums and differences of the statements on exact numbers. -/

namespace Sys2Proof.Machine

open Sys2Proof.Claims

/-! ## The extended instructions by the fields they name -/

theorem encode_mkRot (op : RotOp) (t : R8) : encode (Instr.mkRot op t) = [0xCB, opcode 0 (rotIndex op) (slot t)] := by
  cases t with
  | reg r => cases op <;> cases r <;> rfl
  | atHl => cases op <;> rfl

theorem exec_mkRot (op : RotOp) (t : R8) (s : State) : exec (Instr.mkRot op t) s = .next (rotR8 op t s) := by
  cases t with
  | reg r => cases op <;> cases r <;> rfl
  | atHl => cases op <;> rfl

theorem encode_mkBit (b : Fin 8) (t : R8) : encode (Instr.mkBit b t) = [0xCB, opcode 1 b.val (slot t)] := by
  cases t with
  | reg r => fin_cases b <;> cases r <;> rfl
  | atHl => fin_cases b <;> rfl

theorem exec_mkBit (b : Fin 8) (t : R8) (s : State) : exec (Instr.mkBit b t) s = .next (bitR8 b t s) := by
  cases t with
  | reg r => fin_cases b <;> cases r <;> rfl
  | atHl => fin_cases b <;> rfl

theorem encode_mkRes (b : Fin 8) (t : R8) : encode (Instr.mkRes b t) = [0xCB, opcode 2 b.val (slot t)] := by
  cases t with
  | reg r => fin_cases b <;> cases r <;> rfl
  | atHl => fin_cases b <;> rfl

theorem exec_mkRes (b : Fin 8) (t : R8) (s : State) : exec (Instr.mkRes b t) s = .next (resR8 b t s) := by
  cases t with
  | reg r => fin_cases b <;> cases r <;> rfl
  | atHl => fin_cases b <;> rfl

theorem encode_mkSet (b : Fin 8) (t : R8) : encode (Instr.mkSet b t) = [0xCB, opcode 3 b.val (slot t)] := by
  cases t with
  | reg r => fin_cases b <;> cases r <;> rfl
  | atHl => fin_cases b <;> rfl

theorem exec_mkSet (b : Fin 8) (t : R8) (s : State) : exec (Instr.mkSet b t) s = .next (setR8 b t s) := by
  cases t with
  | reg r => fin_cases b <;> cases r <;> rfl
  | atHl => fin_cases b <;> rfl

/-! ## Bits and disjoint bytes as numbers -/

theorem toNat_bitByte (b : Bool) : (bitByte b).toNat = b.toNat := by cases b <;> rfl

theorem toNat_getLsbD (v : Byte) (i : Nat) : (v.getLsbD i).toNat = v.toNat / 2 ^ i % 2 := Nat.toNat_testBit ..

theorem toNat_getLsbD_seven (v : Byte) : (v.getLsbD 7).toNat = v.toNat / 128 := by
  rw [toNat_getLsbD]
  omega

theorem toNat_getLsbD_zero (v : Byte) : (v.getLsbD 0).toNat = v.toNat % 2 := by
  rw [toNat_getLsbD, pow_zero, Nat.div_one]

/-- A multiple of 2^i and a number below 2^i share no bit, so their union is their sum. -/
theorem toNat_or_of_lt {x y : Byte} {i q : Nat} (hx : x.toNat = 2 ^ i * q) (hy : y.toNat < 2 ^ i) :
    (x ||| y).toNat = x.toNat + y.toNat := by
  rw [BitVec.toNat_or, hx, Nat.two_pow_add_eq_or_of_lt hy]

theorem toNat_shiftLeft_one (v : Byte) : (v <<< 1).toNat = 2 * (v.toNat % 128) := by
  rw [BitVec.toNat_shiftLeft, Nat.shiftLeft_eq]
  omega

theorem toNat_ushiftRight_one (v : Byte) : (v >>> 1).toNat = v.toNat / 2 := by
  rw [BitVec.toNat_ushiftRight, Nat.shiftRight_eq_div_pow, pow_one]

theorem toNat_bitByte_shiftLeft_seven (b : Bool) : (bitByte b <<< 7).toNat = 128 * b.toNat := by cases b <;> rfl

/-- A shift to the left with a bit moved in at the low end. -/
theorem toNat_shiftLeft_or_bitByte (v : Byte) (b : Bool) : ((v <<< 1) ||| bitByte b).toNat = 2 * v.toNat % 256 + b.toNat := by
  have hbit : (bitByte b).toNat < 2 ^ 1 := by rw [toNat_bitByte]; exact b.toNat_lt
  rw [toNat_or_of_lt (toNat_shiftLeft_one v) hbit, toNat_shiftLeft_one, toNat_bitByte]
  omega

/-- A shift to the right with a bit moved in at the high end. -/
theorem toNat_ushiftRight_or_bitByte (v : Byte) (b : Bool) : ((v >>> 1) ||| (bitByte b <<< 7)).toNat = v.toNat / 2 + 128 * b.toNat := by
  have hlow : (v >>> 1).toNat < 2 ^ 7 := by rw [toNat_ushiftRight_one]; omega
  rw [BitVec.or_comm, toNat_or_of_lt (toNat_bitByte_shiftLeft_seven b) hlow, toNat_bitByte_shiftLeft_seven,
    toNat_ushiftRight_one, Nat.add_comm]

/-- The mask of SRA keeps bit 7 in place (R560). -/
theorem and_0x80_eq_bitByte (v : Byte) : v &&& (0x80 : Byte) = bitByte (v.getLsbD 7) <<< 7 := by
  have hmask : (0x80 : Byte) = BitVec.twoPow 8 7 := rfl
  rw [hmask, BitVec.and_twoPow]
  cases v.getLsbD 7 <;> rfl

theorem toNat_swapNibbles (v : Byte) : (((v &&& 0x0F) <<< 4) ||| (v >>> 4)).toNat = 16 * (v.toNat % 16) + v.toNat / 16 := by
  have hlow : (v >>> 4).toNat = v.toNat / 16 := by rw [BitVec.toNat_ushiftRight, Nat.shiftRight_eq_div_pow]
  have hmask : (v &&& 0x0F).toNat = v.toNat % 16 := by rw [BitVec.toNat_and]; exact Nat.and_two_pow_sub_one_eq_mod v.toNat 4
  have hhigh : ((v &&& 0x0F) <<< 4).toNat = 16 * (v.toNat % 16) := by
    rw [BitVec.toNat_shiftLeft, hmask, Nat.shiftLeft_eq]
    omega
  rw [toNat_or_of_lt (i := 4) hhigh (by rw [hlow]; omega), hhigh, hlow]

/-! ## Rotates and shifts (R551-R562) -/

/-- The result and the carry of the model are the exact numbers of the spec. -/
theorem rotated_eq_rotValue (op : RotOp) (v : Byte) (c : Bool) :
    rotated op v.toNat c.toNat = ((rotValue op v c).1.toNat, (rotValue op v c).2.toNat) := by
  cases op with
  | rlc => rw [rotValue, rotated, toNat_shiftLeft_or_bitByte, toNat_getLsbD_seven]
  | rrc => rw [rotValue, rotated, toNat_ushiftRight_or_bitByte, toNat_getLsbD_zero]
  | rl => rw [rotValue, rotated, toNat_shiftLeft_or_bitByte, toNat_getLsbD_seven]
  | rr => rw [rotValue, rotated, toNat_ushiftRight_or_bitByte, toNat_getLsbD_zero]
  | sla => rw [rotValue, rotated, toNat_shiftLeft_one, toNat_getLsbD_seven, Nat.mul_mod_mul_left 2 v.toNat 128]
  | sra => rw [rotValue, rotated, and_0x80_eq_bitByte, toNat_ushiftRight_or_bitByte, toNat_getLsbD_seven, toNat_getLsbD_zero]
  | swap => rw [rotValue, rotated, toNat_swapNibbles, Bool.toNat_false]
  | srl => rw [rotValue, rotated, toNat_ushiftRight_one, toNat_getLsbD_zero]

theorem decide_toNat_eq_one (b : Bool) : decide (b.toNat = 1) = b := by cases b <;> rfl

theorem decide_toNat_eq_zero (b : Bool) : decide (b.toNat = 0) = !b := by cases b <;> rfl

theorem beq_zero_eq_decide_toNat (v : Byte) : (v == 0) = decide (v.toNat = 0) := by
  rw [Bool.beq_eq_decide_eq, decide_eq_decide]
  exact BitVec.toNat_eq

/-- The value written and the flags of an extended rotate, on exact numbers. -/
theorem rotResult_eq (op : RotOp) (v : Byte) (c : Bool) :
    rotResult op v c = (BitVec.ofNat 8 (rotated op v.toNat c.toNat).1,
      ⟨decide ((rotated op v.toNat c.toNat).1 = 0), false, false, decide ((rotated op v.toNat c.toNat).2 = 1)⟩) := by
  rw [rotated_eq_rotValue, decide_toNat_eq_one, ← beq_zero_eq_decide_toNat, BitVec.ofNat_toNat, BitVec.setWidth_eq]
  rfl

theorem rotR8_eq (op : RotOp) (t : R8) (s : State) :
    rotR8 op t s = setF (put s t (rotResult op (operand s t) s.regs.f.c).1) (rotResult op (operand s t) s.regs.f.c).2 (cost t 8 16) := by
  rw [rotR8, readR8_eq_operand, writeR8_eq_put, r8Cost_eq_cost]
  rfl

/-- An accumulator rotate on exact numbers: the extended one but for FZ and the cycle count. -/
theorem rotA_eq (op : RotOp) (s : State) :
    rotA op s = setAF s (BitVec.ofNat 8 (rotated op s.regs.a.toNat s.regs.f.c.toNat).1)
      ⟨false, false, false, decide ((rotated op s.regs.a.toNat s.regs.f.c.toNat).2 = 1)⟩ 4 := by
  rw [rotated_eq_rotValue, decide_toNat_eq_one, BitVec.ofNat_toNat, BitVec.setWidth_eq]
  rfl

/-- Narrowing drops the bit that a shift to the left moves out (spec/00_scope.md R10). -/
theorem ofNat_mod_add (m n : Nat) : BitVec.ofNat 8 (m % 256 + n) = BitVec.ofNat 8 (m + n) := by
  apply BitVec.eq_of_toNat_eq
  rw [BitVec.toNat_ofNat, BitVec.toNat_ofNat, Nat.mod_add_mod]

/-! ## BIT, RES and SET (R563-R565) -/

theorem bitFlags_eq (b : Fin 8) (v : Byte) (f : Flags) :
    bitFlags b v f = ⟨decide (v.toNat / 2 ^ b.val % 2 = 0), false, true, f.c⟩ := by
  rw [← toNat_getLsbD, decide_toNat_eq_zero]
  rfl

/-- A byte is the sum of its parts outside and inside a mask. -/
theorem and_not_add_and (x y : Byte) : (x &&& ~~~y) + (x &&& y) = x := by
  have hdisjoint : (x &&& ~~~y) &&& (x &&& y) = 0#8 := by ext i; cases hx : x[i] <;> cases hy : y[i] <;> simp [hx, hy]
  rw [BitVec.add_eq_or_of_and_eq_zero _ _ hdisjoint]
  ext i; cases hx : x[i] <;> cases hy : y[i] <;> simp [hx, hy]

theorem and_not_eq_sub_and (x y : Byte) : x &&& ~~~y = x - (x &&& y) := eq_sub_of_add_eq (and_not_add_and x y)

/-- Setting the bits of a mask adds those that were clear. -/
theorem or_eq_add_sub_and (x y : Byte) : x ||| y = x + (y - (x &&& y)) := by
  have hdisjoint : x &&& (y &&& ~~~x) = 0#8 := by ext i; cases hx : x[i] <;> cases hy : y[i] <;> simp [hx, hy]
  rw [BitVec.and_comm x y, ← and_not_eq_sub_and, BitVec.add_eq_or_of_and_eq_zero _ _ hdisjoint]
  ext i; cases hx : x[i] <;> cases hy : y[i] <;> simp [hx, hy]

theorem one_shiftLeft_eq_ofNat (b : Fin 8) : (1 : Byte) <<< b.val = BitVec.ofNat 8 (2 ^ b.val) := by fin_cases b <;> rfl

/-- The bit that a mask of one bit selects, as a number. -/
theorem and_one_shiftLeft (b : Fin 8) (v : Byte) : v &&& (1 : Byte) <<< b.val = BitVec.ofNat 8 (v.toNat / 2 ^ b.val % 2 * 2 ^ b.val) := by
  have hmask : (1 : Byte) <<< b.val = BitVec.twoPow 8 b.val := rfl
  rw [hmask, BitVec.and_twoPow, ← toNat_getLsbD]
  cases v.getLsbD b.val with
  | false => rw [Bool.toNat_false, Nat.zero_mul]; rfl
  | true => rw [Bool.toNat_true, Nat.one_mul, ← one_shiftLeft_eq_ofNat]; rfl

/-- Clearing bit b subtracts its value when it is set. -/
theorem and_not_one_shiftLeft (b : Fin 8) (v : Byte) :
    v &&& ~~~((1 : Byte) <<< b.val) = BitVec.ofNat 8 (v.toNat - v.toNat / 2 ^ b.val % 2 * 2 ^ b.val) := by
  have hle : v.toNat / 2 ^ b.val % 2 * 2 ^ b.val ≤ v.toNat :=
    (Nat.mul_le_mul_right _ (Nat.mod_le _ _)).trans (Nat.div_mul_le_self _ _)
  rw [and_not_eq_sub_and, and_one_shiftLeft, ← BitVec.ofNat_sub_ofNat_of_le _ _ (hle.trans_lt v.isLt) hle, BitVec.ofNat_toNat,
    BitVec.setWidth_eq]

/-- Setting bit b adds its value when it is clear. -/
theorem or_one_shiftLeft (b : Fin 8) (v : Byte) :
    v ||| (1 : Byte) <<< b.val = BitVec.ofNat 8 (v.toNat + (1 - v.toNat / 2 ^ b.val % 2) * 2 ^ b.val) := by
  have hpow : 2 ^ b.val < 256 := Nat.pow_lt_pow_right Nat.one_lt_two b.isLt
  have hle : v.toNat / 2 ^ b.val % 2 * 2 ^ b.val ≤ 2 ^ b.val := by
    rw [← toNat_getLsbD]
    exact (Nat.mul_le_mul_right _ (Bool.toNat_le _)).trans_eq (Nat.one_mul _)
  rw [or_eq_add_sub_and, and_one_shiftLeft, one_shiftLeft_eq_ofNat, Nat.sub_mul, Nat.one_mul, BitVec.ofNat_add,
    ← BitVec.ofNat_sub_ofNat_of_le _ _ (hle.trans_lt hpow) hle, BitVec.ofNat_toNat, BitVec.setWidth_eq]

theorem bitR8_eq (b : Fin 8) (t : R8) (s : State) : bitR8 b t s = setF s (bitFlags b (operand s t) s.regs.f) (cost t 8 12) := by
  rw [bitR8, readR8_eq_operand, r8Cost_eq_cost]
  rfl

theorem resR8_eq (b : Fin 8) (t : R8) (s : State) :
    resR8 b t s = { put s t (operand s t &&& ~~~((1 : Byte) <<< b.val)) with cycles := cost t 8 16 } := by
  rw [resR8, readR8_eq_operand, writeR8_eq_put, r8Cost_eq_cost, State.took]

theorem setR8_eq (b : Fin 8) (t : R8) (s : State) :
    setR8 b t s = { put s t (operand s t ||| (1 : Byte) <<< b.val) with cycles := cost t 8 16 } := by
  rw [setR8, readR8_eq_operand, writeR8_eq_put, r8Cost_eq_cost, State.took]

end Sys2Proof.Machine

open Sys2Proof.Machine Sys2Proof.Claims

/-- Settles O19: each form runs the rotate of its operation and operand (`exec_mkRot`, `rotR8_eq`), whose value and flags are the exact numbers of the statement (`rotResult_eq`). -/
theorem extendedRotatesAndShifts : Obligations.ExtendedRotatesAndShifts := by
  unfold Obligations.ExtendedRotatesAndShifts
  intro op t s
  refine ⟨encode_mkRot op t, ?_⟩
  rw [exec_mkRot, rotR8_eq, rotResult_eq]

/-- Settles O20: BIT writes its flags (`bitFlags_eq`); RES subtracts the bit where it is set (`and_not_one_shiftLeft`) and SET adds it where it is clear (`or_one_shiftLeft`). -/
theorem bitResetAndSet : Obligations.BitResetAndSet := by
  unfold Obligations.BitResetAndSet
  intro b t s
  refine ⟨encode_mkBit b t, ?_, encode_mkRes b t, ?_, encode_mkSet b t, ?_⟩
  · rw [exec_mkBit, bitR8_eq, bitFlags_eq]
  · rw [exec_mkRes, resR8_eq, and_not_one_shiftLeft]
  · rw [exec_mkSet, setR8_eq, or_one_shiftLeft]

/-- Settles O18: each runs the rotate of A on exact numbers (`rotA_eq`), those to the left narrowed (`ofNat_mod_add`). -/
theorem accumulatorRotates : Obligations.AccumulatorRotates := by
  unfold Obligations.AccumulatorRotates
  intro s
  dsimp only
  rw [← ofNat_mod_add (2 * s.regs.a.toNat) (s.regs.a.toNat / 128), ← ofNat_mod_add (2 * s.regs.a.toNat) s.regs.f.c.toNat]
  exact ⟨rfl, congrArg _ (rotA_eq .rlc s), rfl, congrArg _ (rotA_eq .rrc s), rfl, congrArg _ (rotA_eq .rl s), rfl, congrArg _ (rotA_eq .rr s)⟩

end

section
/-! O51. Every part of a step keeps the invariant: the bus, the instruction, the poll, the PPU, the timer and the host (spec/45_system.md R600, spec/60_exceptions.md R820, R751). -/

namespace Sys2Proof.Machine

open Sys2Proof.Claims

/-- The invariant speaks of the memories, the cartridge, the PPU, the timer's sub-counters and of how RUN and FAULT agree, and of nothing else. -/
theorem State.Inv.of_parts {s t : State} (h : s.Inv) (hmem : t.mem = s.mem) (hcart : t.cart = s.cart) (hppu : t.ppu = s.ppu)
    (hdivSub : t.timer.divSub < 256) (htimaSub : t.timer.timaSub < 1024) (hlocked : t.run = .locked ↔ t.faultRec ≠ .none) : t.Inv := by
  obtain ⟨memWf, memWithin, bankLo, ly, lineCyc, mode, spr, fb, -, -, -⟩ := h
  constructor
  case divSub => exact hdivSub
  case timaSub => exact htimaSub
  case lockedIff => exact hlocked
  all_goals
    simp only [hmem, hcart, hppu]
    assumption

theorem State.Inv.of_bus {s t : State} (h : s.Inv) (hbus : t.bus = s.bus) (hlocked : t.run = .locked ↔ t.faultRec ≠ .none) : t.Inv := by
  obtain ⟨hmem, hcart, htimer, hppu, -⟩ := State.bus_eq hbus
  exact h.of_parts hmem hcart hppu (htimer ▸ h.divSub) (htimer ▸ h.timaSub) hlocked

/-- An update outside those parts keeps the invariant. -/
theorem State.Inv.of_frame {s t : State} (h : s.Inv) (hmem : t.mem = s.mem) (hcart : t.cart = s.cart) (htimer : t.timer = s.timer)
    (hppu : t.ppu = s.ppu) (hrun : t.run = s.run) (hfault : t.faultRec = s.faultRec) : t.Inv :=
  h.of_parts hmem hcart hppu (htimer ▸ h.divSub) (htimer ▸ h.timaSub) (by rw [hrun, hfault, h.lockedIff])

theorem State.setSp_inv {s : State} (h : s.Inv) (v : Word) : (s.setSp v).Inv := h.of_frame rfl rfl rfl rfl rfl rfl

theorem State.setPc_inv {s : State} (h : s.Inv) (a : Addr) : (s.setPc a).Inv := h.of_frame rfl rfl rfl rfl rfl rfl

theorem State.took_inv {s : State} (h : s.Inv) (n : Nat) : (s.took n).Inv := h.of_frame rfl rfl rfl rfl rfl rfl

/-! ## The bus -/

/-- A bus write reaches the PPU's registers alone, not its counters, MODE, snapshot or framebuffer (R130). -/
theorem busWrite_ppu_internal (s : State) (a : Addr) (v : Byte) :
    (busWrite s a v).ppu.ly = s.ppu.ly ∧ (busWrite s a v).ppu.lineCyc = s.ppu.lineCyc ∧ (busWrite s a v).ppu.mode = s.ppu.mode ∧
      (busWrite s a v).ppu.spr = s.ppu.spr ∧ (busWrite s a v).ppu.fb = s.ppu.fb := by
  unfold busWrite
  split
  case h_3 r _ => cases r <;> simp [ioWrite, oamDma, resetDiv]
  all_goals exact ⟨rfl, rfl, rfl, rfl, rfl⟩

/-- A bus write clears DIV_SUB or keeps it, and keeps TIMA_SUB (R130, R761). -/
theorem busWrite_timer_subs (s : State) (a : Addr) (v : Byte) :
    ((busWrite s a v).timer.divSub = s.timer.divSub ∨ (busWrite s a v).timer.divSub = 0) ∧
      (busWrite s a v).timer.timaSub = s.timer.timaSub := by
  unfold busWrite
  split
  case h_3 r _ => cases r <;> simp [ioWrite, oamDma, resetDiv]
  all_goals exact ⟨.inl rfl, rfl⟩

theorem busWrite_inv {s : State} (h : s.Inv) (a : Addr) (v : Byte) : (busWrite s a v).Inv := by
  obtain ⟨-, hrom, -, hram⟩ := busWrite_cart_fixed s a v
  obtain ⟨hly, hcyc, hmode, hspr, hfb⟩ := busWrite_ppu_internal s a v
  obtain ⟨hdiv, htima⟩ := busWrite_timer_subs s a v
  have hdivSub := h.divSub
  exact
    { memWf := busWrite_wf h.memWf a v
      memWithin := by rw [hrom, hram]; exact busWrite_within h.memWithin a v
      bankLo := busWrite_bankLo h.bankLo a v
      ly := by rw [hly]; exact h.ly
      lineCyc := by rw [hcyc]; exact h.lineCyc
      mode := by rw [hmode, hly, hcyc]; exact h.mode
      spr := by rw [hspr]; exact h.spr
      fb := by rw [hfb]; exact h.fb
      divSub := by omega
      timaSub := by rw [htima]; exact h.timaSub
      lockedIff := by rw [busWrite_run, busWrite_faultRec]; exact h.lockedIff }

theorem stored_inv {s : State} (h : s.Inv) (l : List (Addr × Byte)) : (stored s l).Inv := by
  induction l generalizing s with
  | nil => exact h
  | cons p l ih => exact ih (busWrite_inv h p.1 p.2)

theorem push16_inv {s : State} (h : s.Inv) (v : Word) : (push16 s v).Inv :=
  busWrite_inv (busWrite_inv (State.setSp_inv h _) _ _) _ _

theorem resetDiv_inv {s : State} (h : s.Inv) : (resetDiv s).Inv :=
  { h with divSub := (by decide : 0 < 256) }

/-! ## The instruction -/

/-- HALT sets the halt repeat when IME is clear and a line is pending, and halts otherwise (R610, R611). -/
theorem exec_halt (s : State) :
    exec .halt s = .next (if s.ime = false ∧ s.pending ≠ 0 then { s with haltRepeat := true, cycles := 4 }
      else { s with run := .halted, cycles := 4 }) := by
  show execHalt s = _
  have htest : (Config.haltBug && !s.ime && s.pending != 0) = true ↔ s.ime = false ∧ s.pending ≠ 0 := by simp [Config.haltBug]
  simp only [execHalt, htest]
  split <;> rfl

/-- From a RUNNING core only the illegal opcodes lock, and only they record a fault (R620). -/
theorem exec_lockedIff {i : Instr} {s t : State} (hrun : s.run = .running) (hfault : s.faultRec = .none) (h : exec i s = .next t) :
    t.run = .locked ↔ t.faultRec ≠ .none := by
  obtain ⟨-, -, hkeepRun, -, hkeepFault, -⟩ := eachInstructionKeepsTheOthersControlState i s t h
  by_cases hillegal : ∃ p ∈ illegal, p.1 = i
  · obtain ⟨p, hp, rfl⟩ := hillegal
    rw [exec_illegal hp] at h
    cases h
    simp [raiseIllegal]
  · have hlegal : ∀ p ∈ illegal, p.1 ≠ i := fun p hp he => hillegal ⟨p, hp, he⟩
    have hunlocked : t.run ≠ .locked := by
      by_cases hhalt : i = .halt
      · subst hhalt
        rw [exec_halt] at h
        cases h
        split <;> simp [hrun]
      · by_cases hstop : ∃ g, i = .stop g
        · obtain ⟨g, rfl⟩ := hstop
          cases h
          exact RunState.noConfusion
        · rw [hkeepRun hhalt (not_exists.1 hstop) hlegal, hrun]
          exact RunState.noConfusion
    rw [hkeepFault hlegal, hfault]
    simp [hunlocked]

/-- An instruction of a RUNNING core acts on the bus part by its stores alone (`exec_storesOnly`), STOP by the reset of the divider. -/
theorem exec_inv {i : Instr} {s t : State} (hinv : s.Inv) (hrun : s.run = .running) (h : exec i s = .next t) : t.Inv := by
  have hfault : s.faultRec = .none := by
    by_contra hne
    simpa [hrun] using hinv.lockedIff.2 hne
  have hlocked := exec_lockedIff hrun hfault h
  by_cases hstop : ∃ g, i = .stop g
  · obtain ⟨g, rfl⟩ := hstop
    exact (resetDiv_inv hinv).of_bus (execStop_bus h) hlocked
  · obtain ⟨u, hu, hbus⟩ := exec_storesOnly i s (not_exists.1 hstop)
    obtain rfl : u = t := by simpa [h] using hu.symm
    exact (stored_inv hinv _).of_bus hbus hlocked

/-- The fetch changes PC, HALT_REPEAT and R603's addr alone (R602). -/
theorem fetchInstr_inv {s : State} (h : s.Inv) : (fetchInstr s).2.Inv := by
  unfold fetchInstr
  dsimp only
  split <;> exact h.of_frame (by simp) (by simp) (by simp) (by simp) (by simp) (by simp)

theorem fetchInstr_run (s : State) : (fetchInstr s).2.run = s.run := by
  unfold fetchInstr
  dsimp only
  split <;> simp

theorem dispatchStart_inv {s : State} (h : s.Inv) : (dispatchStart s).2.Inv :=
  fetchInstr_inv (h.of_frame (by simp) (by simp) (by simp) (by simp) (by simp) (by simp))

theorem dispatchStart_run (s : State) : (dispatchStart s).2.run = s.run := by
  rw [dispatchStart, fetchInstr_run, applyPending_run]

/-! ## The poll -/

/-- Waking ends HALTED, which is not LOCKED. -/
theorem wake_inv {s : State} (h : s.Inv) : (wake s).Inv := by
  refine h.of_parts (by simp) (by simp) (by simp) (by simpa using h.divSub) (by simpa using h.timaSub) ?_
  rw [wake_faultRec, ← h.lockedIff]
  unfold wake
  split
  · next hhalted => simp [hhalted]
  · rfl

theorem dispatchInt_inv {s : State} (h : s.Inv) (line : Line) : (dispatchInt line s).Inv := by
  have hack : ({ acknowledge line s with ime := false } : State).Inv := h.of_frame rfl rfl rfl rfl rfl rfl
  exact wake_inv (State.setPc_inv (push16_inv hack _) _)

theorem poll_inv {s : State} (h : s.Inv) : (poll s).Inv := by
  have hwake : (if s.pending = 0 then s else wake s).Inv := by
    split
    · exact h
    · exact wake_inv h
  obtain hpoll | ⟨line, -, -, hpoll⟩ := poll_cases s <;> rw [hpoll]
  · exact hwake
  · exact State.took_inv (dispatchInt_inv hwake line) _

/-! ## The PPU -/

/-- The snapshot after a cycle's counting is the one before or a new one of 40 entries, and the framebuffer is kept (R845). -/
theorem ppuCount_spr_fb (s : State) :
    ((ppuCount s).ppu.spr = s.ppu.spr ∨ (ppuCount s).ppu.spr = oamSnapshot s.mem) ∧ (ppuCount s).ppu.fb = s.ppu.fb := by
  unfold ppuCount lineChange lycCheck
  split_ifs <;> simp

/-- The mode's part of a cycle keeps the snapshot, and the framebuffer but for one line drawn (R822, R841). -/
theorem ppuMode_spr_fb (s : State) :
    (ppuMode s).ppu.spr = s.ppu.spr ∧ ((ppuMode s).ppu.fb = s.ppu.fb ∨
      ∃ p : Ppu, (ppuMode s).ppu.fb = s.ppu.fb.set p.ly.toNat ((lineShades s.mem p p.ly.toNat).map Config.shadeArgb)) := by
  unfold ppuMode
  dsimp only
  split
  · exact ⟨rfl, .inl rfl⟩
  · generalize modeOf s.ppu.ly s.ppu.lineCyc = m
    cases m
    case hblank =>
      simp only [modeEntry, modeInt_eq]
      split
      · exact ⟨rfl, .inr ⟨_, rfl⟩⟩
      · exact ⟨rfl, .inl rfl⟩
    all_goals exact ⟨rfl, .inl rfl⟩

/-- A framebuffer keeps its shape when a line of 160 pixels is drawn on it. -/
theorem fbShape_set {fb : List (List Argb)} (h : fbShape fb) (k : Nat) {line : List Argb} (hline : line.length = 160) :
    fbShape (fb.set k line) := by
  refine ⟨(List.length_set ..).trans h.1, fun l hl => ?_⟩
  obtain hl | rfl := List.mem_or_eq_of_mem_set hl
  · exact h.2 l hl
  · exact hline

/-- The counters stay in range as they count, and MODE follows them (R820, R821). -/
theorem ppuCycle_inv {s : State} (h : s.Inv) : (ppuCycle s).Inv := by
  obtain ⟨hly, hcyc⟩ := ppuCount_counters s
  obtain ⟨hly', hcyc', hmode⟩ := ppuMode_counters (ppuCount s)
  obtain ⟨hspr, hfb⟩ := ppuCount_spr_fb s
  obtain ⟨hspr', hfb'⟩ := ppuMode_spr_fb (ppuCount s)
  have hlyLt := h.ly
  have hcycLt := h.lineCyc
  have hnext := nextLine_toNat s.ppu.ly h.ly
  exact
    { memWf := by simpa [ppuCycle] using h.memWf
      memWithin := by simpa [ppuCycle] using h.memWithin
      bankLo := by simpa [ppuCycle] using h.bankLo
      ly := by rw [ppuCycle, hly', hly]; split <;> omega
      lineCyc := by rw [ppuCycle, hcyc', hcyc]; split <;> omega
      mode := by rw [ppuCycle, hmode, hly', hcyc']
      spr := by
        rw [ppuCycle, hspr']
        obtain hspr | hspr := hspr <;> rw [hspr]
        · exact h.spr
        · simp [oamSnapshot]
      fb := by
        obtain hfb' | ⟨p, hfb'⟩ := hfb' <;> rw [ppuCycle, hfb', hfb]
        · exact h.fb
        · exact fbShape_set h.fb _ (by rw [List.length_map, lineShades_length])
      divSub := by simpa [ppuCycle] using h.divSub
      timaSub := by simpa [ppuCycle] using h.timaSub
      lockedIff := by simpa [ppuCycle] using h.lockedIff }

theorem ppuAdvance_inv (n : Nat) {s : State} (h : s.Inv) : (ppuAdvance n s).Inv := by
  induction n generalizing s with
  | zero => exact h
  | succ n ih => exact ih (ppuCycle_inv h)

/-! ## The timer -/

theorem divAdvance_inv (n : Nat) {s : State} (h : s.Inv) : (divAdvance n s).Inv :=
  { h with divSub := Nat.mod_lt _ (by decide : 0 < 256) }

theorem timaIncrements_inv (k : Nat) {s : State} (h : s.Inv) : (timaIncrements k s).Inv := by
  obtain ⟨htima, -, -, -, hdiv, -⟩ := timaIncrements_keeps k s
  exact h.of_parts (by simp) (by simp) (by simp) (hdiv ▸ h.divSub) (htima ▸ h.timaSub) (by simpa using h.lockedIff)

/-- What is left in TIMA_SUB is below the period, which is at most 1024 (R751). -/
theorem timaAdvance_inv (n : Nat) {s : State} (h : s.Inv) : (timaAdvance n s).Inv := by
  obtain ⟨hpos, hle⟩ := timaPeriod_pos s.timer.sel
  unfold timaAdvance
  split
  · exact timaIncrements_inv _ { h with timaSub := (Nat.mod_lt _ hpos).trans_le hle }
  · exact h

theorem devicesAdvance_inv {s : State} (h : s.Inv) : (devicesAdvance s).Inv :=
  timaAdvance_inv _ (divAdvance_inv _ (ppuAdvance_inv _ h))

/-! ## The host and the step -/

/-- A press ends STOPPED, which is not LOCKED. -/
theorem leaveStop_inv {s : State} (h : s.Inv) : (leaveStop s).Inv := by
  refine h.of_parts (by simp) (by simp) (by simp) (by simpa using h.divSub) (by simpa using h.timaSub) ?_
  rw [leaveStop_faultRec, ← h.lockedIff]
  unfold leaveStop
  split
  · next hstopped => simp [hstopped]
  · rfl

theorem hostMove_inv {s : State} (h : s.Inv) (m : HostMove) : (hostMove s m).Inv := by
  cases m with
  | press k =>
    show (press k s).Inv
    unfold press
    split
    · exact h
    · exact leaveStop_inv (h.of_frame rfl rfl rfl rfl rfl rfl)
  | release k => exact h.of_frame rfl rfl rfl rfl rfl rfl

theorem hostMoves_foldl_inv (l : List HostMove) {s : State} (h : s.Inv) : (l.foldl hostMove s).Inv := by
  induction l generalizing s with
  | nil => exact h
  | cons m l ih => exact ih (hostMove_inv h m)

theorem hostTurn_inv {s : State} (h : s.Inv) : (hostTurn s).Inv := by
  unfold hostTurn
  split
  · exact h
  · exact hostMoves_foldl_inv _ (h.of_frame rfl rfl rfl rfl rfl rfl)

theorem finishTick_inv {s : State} (h : s.Inv) : (finishTick s).Inv := by
  unfold finishTick
  split
  · exact h
  · exact devicesAdvance_inv (poll_inv h)

theorem finish_inv {r : Result} {t : State} (hr : ∀ u, r = .next u → u.Inv) (h : finish r = .next t) : t.Inv := by
  cases r with
  | next u =>
    cases h
    exact finishTick_inv (hr u rfl)
  | fault | refused => cases h

theorem noTick_inv {why : Fault} {s u t : State} (hu : u.Inv) (h : noTick why s u = .next t) : t.Inv := by
  unfold noTick at h
  split at h <;> cases h
  exact hu

/-- A step keeps the invariant, whatever RUN is after the host's moves. -/
theorem step_inv {s t : State} (hinv : s.Inv) (h : step s = .next t) : t.Inv := by
  have hturn : (hostTurn s).Inv := hostTurn_inv hinv
  unfold step at h
  dsimp only at h
  split at h
  · exact noTick_inv hturn h
  · exact noTick_inv hturn h
  · cases h
    exact finishTick_inv (State.took_inv hturn _)
  · next hrun =>
    exact finish_inv (fun u hu => exec_inv (dispatchStart_inv hturn) ((dispatchStart_run _).trans hrun) hu) h

end Sys2Proof.Machine

open Sys2Proof.Machine

/-- Settles O51: each part of a step keeps the invariant, so the step does (`step_inv`). -/
theorem everyStepKeepsTheInvariant : Obligations.EveryStepKeepsTheInvariant := by
  unfold Obligations.EveryStepKeepsTheInvariant
  exact fun _ _ hinv h => step_inv hinv h

end

section
/-! O25, O26, O27. The dispatch of a tick: a staged IME change, the fetch with the halt repeat or without it, exec, and the end of the tick (spec/45_system.md R600-R603, R611). -/

namespace Sys2Proof.Machine

open Sys2Proof.Claims

/-! ## The fetch -/

/-- The bytes an instruction is decoded from, by its length: the inversion of `decode` (spec/30_encoding.md R213). -/
theorem decode_cases {bs rest : List Byte} {i : Instr} (h : decode bs = .ok (i, rest)) :
    (∃ op, instrLength op = 1 ∧ bs = op :: rest ∧ i = decodeBytes op 0 0) ∨
      (∃ op b1, instrLength op = 2 ∧ bs = op :: b1 :: rest ∧ i = decodeBytes op b1 0) ∨
      ∃ op b1 b2, instrLength op = 3 ∧ bs = op :: b1 :: b2 :: rest ∧ i = decodeBytes op b1 b2 := by
  unfold decode at h
  split at h
  · cases h
  · split at h
    · next hlen =>
      cases h
      exact .inl ⟨_, hlen, rfl, rfl⟩
    · next hlen =>
      cases h
      exact .inr (.inl ⟨_, _, hlen, rfl, rfl⟩)
    · next hlen =>
      cases h
      exact .inr (.inr ⟨_, _, _, hlen, rfl, rfl⟩)
    · cases h

/-- The dispatch when HALT_REPEAT is clear, in the state before the staged IME change (R601, R602). -/
theorem dispatchStart_of_clear {t : State} (hrepeat : t.haltRepeat = false) :
    dispatchStart t = (let b := busRead t t.regs.pc
      (decodeBytes b (if 2 ≤ instrLength b then busRead t (t.regs.pc + 1) else 0) (if 3 ≤ instrLength b then busRead t (t.regs.pc + 2) else 0),
       { applyPending t with regs := { t.regs with pc := t.regs.pc + BitVec.ofNat 16 (instrLength b) }, opAddr := t.regs.pc })) := by
  rw [dispatchStart, fetchInstr_of_clear (by simpa using hrepeat)]
  simp only [applyPending_regs, busRead_applyPending]

/-- The dispatch when the bytes at PC are those of a well-formed instruction: that instruction, with PC past its bytes. -/
theorem dispatchStart_of_bytesAt {t : State} {i : Instr} (hrepeat : t.haltRepeat = false) (hwf : i.wellFormed = true)
    (hbytes : bytesAt t (encode i)) :
    dispatchStart t =
      (i, { applyPending t with regs := { t.regs with pc := t.regs.pc + BitVec.ofNat 16 (encode i).length }, opAddr := t.regs.pc }) := by
  have hdecode : decode (encode i) = .ok (i, []) := by simpa using (decode_encode_iff i []).2 hwf
  have hfirst : ∀ b l, encode i = b :: l → busRead t t.regs.pc = b := fun b l he => by simpa [he] using hbytes 0 (by simp [he])
  have hsecond : ∀ a b l, encode i = a :: b :: l → busRead t (t.regs.pc + 1) = b := fun a b l he => by
    simpa [he] using hbytes 1 (by simp [he])
  have hthird : ∀ a b c l, encode i = a :: b :: c :: l → busRead t (t.regs.pc + 2) = c := fun a b c l he => by
    simpa [he] using hbytes 2 (by simp [he])
  rw [dispatchStart_of_clear hrepeat]
  dsimp only
  obtain ⟨op, hlen, he, hi⟩ | ⟨op, b1, hlen, he, hi⟩ | ⟨op, b1, b2, hlen, he, hi⟩ := decode_cases hdecode
  · rw [hfirst _ _ he, he, hlen, hi]
    rfl
  · rw [hfirst _ _ he, hsecond _ _ _ he, he, hlen, hi]
    rfl
  · rw [hfirst _ _ he, hsecond _ _ _ he, hthird _ _ _ _ he, he, hlen, hi]
    rfl

/-- After the HALT repeat the opcode's fetch leaves PC where it is, so the second byte is read at the opcode's own address (R602, R611). -/
theorem fetchInstr_of_repeat {u : State} (h : u.haltRepeat = true) :
    fetchInstr u = (let b := busRead u u.regs.pc
      (decodeBytes b (if 2 ≤ instrLength b then b else 0) (if 3 ≤ instrLength b then busRead u (u.regs.pc + 1) else 0),
       { u with
         regs := { u.regs with pc := u.regs.pc + BitVec.ofNat 16 (instrLength b - 1) }, opAddr := u.regs.pc, haltRepeat := false })) := by
  have hfirst : fetched { u with opAddr := u.regs.pc } = { u with opAddr := u.regs.pc, haltRepeat := false } := fetched_of_repeat h
  have hsecond : fetched { u with opAddr := u.regs.pc, haltRepeat := false } =
      { u with regs := { u.regs with pc := u.regs.pc + 1 }, opAddr := u.regs.pc, haltRepeat := false } := fetched_of_clear rfl
  have hthird : fetched { u with regs := { u.regs with pc := u.regs.pc + 1 }, opAddr := u.regs.pc, haltRepeat := false } =
      { u with regs := { u.regs with pc := u.regs.pc + 2 }, opAddr := u.regs.pc, haltRepeat := false } := by
    rw [fetched_of_clear rfl]
    simp [State.setPc, add_assoc]
  have hread : ∀ (r : Regs) (a x : Addr), busRead { u with regs := r, opAddr := a, haltRepeat := false } x = busRead u x :=
    fun _ _ x => busRead_of_bus (s := u) rfl x
  simp only [fetchInstr, fetchByte, hfirst]
  obtain hlen | hlen | hlen := instrLength_cases (busRead u u.regs.pc)
  · simp [hlen]
  · simp only [hlen, hsecond, hread]
    rfl
  · simp only [hlen, hsecond, hthird, hread]
    rfl

/-- The dispatch after the HALT repeat, in the state before the staged IME change. -/
theorem dispatchStart_of_repeat {t : State} (hrepeat : t.haltRepeat = true) :
    dispatchStart t = (let b := busRead t t.regs.pc
      (decodeBytes b (if 2 ≤ instrLength b then b else 0) (if 3 ≤ instrLength b then busRead t (t.regs.pc + 1) else 0),
       { applyPending t with
         regs := { t.regs with pc := t.regs.pc + BitVec.ofNat 16 (instrLength b - 1) }, opAddr := t.regs.pc, haltRepeat := false })) := by
  rw [dispatchStart, fetchInstr_of_repeat (by simpa using hrepeat)]
  simp only [applyPending_regs, busRead_applyPending]

/-! ## The tick around exec -/

/-- A step of a core that is RUNNING after the host's moves is exec of what the dispatch gives, then the end of the tick. -/
theorem step_of_dispatchStart {s u : State} {i : Instr} (hrun : (hostTurn s).run = .running)
    (hdispatch : dispatchStart (hostTurn s) = (i, u)) : step s = finish (exec i u) := by
  rw [step_of_running hrun, hdispatch]

/-- The host's moves stage nothing, so IME after the dispatch's ApplyPending is that of the state before them (R601, R800). -/
theorem applyPending_hostTurn_ime (s : State) : (applyPending (hostTurn s)).ime = (applyPending s).ime := by
  unfold applyPending
  rw [hostTurn_imePending]
  cases s.imePending <;> simp

/-- With IME clear the end of a tick takes no interrupt: it keeps the registers, IME, its staging and the memories (R710). -/
theorem finishTick_of_ime_clear {u : State} (hime : u.ime = false) :
    (finishTick u).regs = u.regs ∧ (finishTick u).ime = false ∧ (finishTick u).imePending = u.imePending ∧
      (finishTick u).mem = u.mem := by
  have hpoll : poll u = if u.pending = 0 then u else wake u := by
    obtain hpoll | ⟨-, hset, -⟩ := poll_cases u
    · exact hpoll
    · simp [hime] at hset
  unfold finishTick devicesAdvance
  rw [hpoll]
  split_ifs <;> simp [hime]

/-- A tick that runs EI and takes no interrupt at its end stages SET (R606, R710). -/
theorem step_of_ei {s u : State} (hrun : (hostTurn s).run = .running) (hdispatch : dispatchStart (hostTurn s) = (.ei, u))
    (hime : u.ime = false) :
    ∃ t, step s = .next t ∧ t.regs = u.regs ∧ t.ime = false ∧ t.imePending = .set ∧ t.mem = u.mem :=
  ⟨_, step_of_dispatchStart hrun hdispatch, finishTick_of_ime_clear (u := { u with imePending := .set, cycles := 4 }) hime⟩

end Sys2Proof.Machine

open Sys2Proof Sys2Proof.Machine Sys2Proof.Claims

/-- Settles O26: the dispatch after the HALT repeat is that of the statement (`dispatchStart_of_repeat`), and the rest of the tick is `finish`. -/
theorem haltRepeatRereadsTheOpcode : Obligations.HaltRepeatRereadsTheOpcode := by
  unfold Obligations.HaltRepeatRereadsTheOpcode
  intro s t b hrun hrepeat
  rw [step_of_dispatchStart hrun (dispatchStart_of_repeat hrepeat)]
  generalize exec _ _ = r
  cases r <;> rfl

/-- Settles O27: ApplyPending by what is staged; EI is one byte (`dispatchStart_of_length_one`), and its tick stages SET (`step_of_ei`). -/
theorem stagedImeTakesEffectAtTheNextDispatch : Obligations.StagedImeTakesEffectAtTheNextDispatch := by
  unfold Obligations.StagedImeTakesEffectAtTheNextDispatch
  intro s
  refine ⟨fun h => by simp only [applyPending, h], fun h => by simp only [applyPending, h], fun h => by simp only [applyPending, h],
    fun hrun hrepeat hread hime => ?_⟩
  rw [← hostTurn_regs s] at hread
  rw [← applyPending_hostTurn_ime] at hime
  have hdispatch := dispatchStart_of_length_one hrepeat (by rw [hread]; rfl)
  rw [hread] at hdispatch
  simpa using step_of_ei hrun hdispatch hime

/-- Settles O25: the dispatch gives the instruction at PC (`dispatchStart_of_bytesAt`), and the rest of the tick is `finish`. -/
theorem stepRunsTheDecodedInstruction : Obligations.StepRunsTheDecodedInstruction := by
  unfold Obligations.StepRunsTheDecodedInstruction
  intro i s t hrun hrepeat hwf hbytes
  rw [step_of_dispatchStart hrun (dispatchStart_of_bytesAt hrepeat hwf hbytes)]
  generalize exec _ _ = r
  cases r <;> rfl

end

section
/-! O22, O23, O21, O52. The system instructions, and what a step answers by RUN: an enabled tick always completes (spec/45_system.md R600, R603-R606, R610, R612). -/

namespace Sys2Proof.Machine

/-- A line is pending when it is both enabled and requested (spec/60_exceptions.md R703). -/
theorem pending_ne_zero_iff (s : State) : s.pending ≠ 0 ↔ ∃ k, k < 5 ∧ s.ie.getLsbD k = true ∧ s.ifl.getLsbD k = true := by
  have hbit : ∀ k, k < 5 → s.pending.getLsbD k = (s.ie.getLsbD k && s.ifl.getLsbD k) := fun k hk => by simp [State.pending, hk]
  constructor
  · intro hne
    by_contra hnone
    refine hne (BitVec.eq_of_getLsbD_eq fun k hk => ?_)
    rw [hbit k hk]
    simpa using fun hie => Bool.eq_false_iff.2 fun hif => hnone ⟨k, hk, hie, hif⟩
  · rintro ⟨k, hk, hie, hif⟩ hzero
    simpa [hzero, hie, hif] using hbit k hk

/-- A step of a core that is HALTED after the host's moves is an idle step, whatever is at PC (R603). -/
theorem step_of_halted {s : State} (hrun : (hostTurn s).run = .halted) : step s = .next (finishTick (idleStep (hostTurn s))) := by
  simp only [step, hrun]

/-- A step of a core that the host's moves leave STOPPED answers the state after those moves, if it answers one (log 8). -/
theorem step_of_stopped {s t : State} (hrun : (hostTurn s).run = .stopped) (h : step s = .next t) : t = hostTurn s := by
  simp only [step, hrun, noTick] at h
  split at h <;> simp_all

/-- Every instruction answers a next state. -/
theorem exec_isNext (i : Instr) (s : State) : ∃ t, exec i s = .next t := by
  by_cases hstop : ∃ g, i = .stop g
  · obtain ⟨g, rfl⟩ := hstop
    exact ⟨_, rfl⟩
  · obtain ⟨t, ht, -⟩ := exec_storesOnly i s (not_exists.1 hstop)
    exact ⟨t, ht⟩

end Sys2Proof.Machine

open Sys2Proof Sys2Proof.Machine Sys2Proof.Claims

/-- Settles O22: HALT tests IME and the pending lines (`exec_halt`, `pending_ne_zero_iff`), and a HALTED core idles (`step_of_halted`). -/
theorem haltThenIdleSteps : Obligations.HaltThenIdleSteps := by
  unfold Obligations.HaltThenIdleSteps
  intro s pend
  refine ⟨rfl, fun h => ?_, fun h => ?_, fun hrun => ?_⟩
  · rw [exec_halt, if_pos (by rwa [pending_ne_zero_iff])]
  · rw [exec_halt, if_neg (by rwa [pending_ne_zero_iff])]
  · have hunlocked : ¬ (idleStep (hostTurn s)).run = .locked := by simp [idleStep, hrun]
    rw [step_of_halted hrun, finishTick, if_neg hunlocked]
    rfl

/-- Settles O23: STOP by its meaning, and a STOPPED core acts in no tick (`step_of_stopped`). -/
theorem stopStopsTheClock : Obligations.StopStopsTheClock := by
  unfold Obligations.StopStopsTheClock
  exact fun g s => ⟨rfl, rfl, fun hrun t h => step_of_stopped hrun h⟩

/-- Settles O52: an idle step answers a next state (`step_of_halted`), and so does every instruction (`exec_isNext`). -/
theorem enabledTicksAlwaysComplete : Obligations.EnabledTicksAlwaysComplete := by
  unfold Obligations.EnabledTicksAlwaysComplete
  rintro s (hrun | hrun)
  · obtain ⟨u, hu⟩ := exec_isNext (dispatchStart (hostTurn s)).1 (dispatchStart (hostTurn s)).2
    exact ⟨finishTick u, by rw [step_of_running hrun, hu]; rfl⟩
  · exact ⟨_, step_of_halted hrun⟩

/-- Settles O21: the three instructions by their meanings. -/
theorem nopDiAndEi : Obligations.NopDiAndEi := by
  unfold Obligations.NopDiAndEi
  exact fun s => ⟨rfl, rfl, rfl, rfl, rfl, rfl⟩

end

section
/-! O29, O28. The interrupt lines: raising and acknowledging one, and the poll that wakes a halted core and dispatches the first pending line (spec/60_exceptions.md R700-R711, R720). -/

namespace Sys2Proof.Machine

open Sys2Proof.Claims

/-! ## One line's bit (R700) -/

/-- The mask of a line has that line's bit alone. -/
theorem Line.mask_getLsbD (line : Line) {k : Nat} (hk : k < 5) : ((1 : BitVec 5) <<< line.bit).getLsbD k = decide (k = line.bit) := by
  revert k
  cases line <;> decide

theorem raiseInt_getLsbD (line : Line) (s : State) {k : Nat} (hk : k < 5) :
    (raiseInt line s).ifl.getLsbD k = (s.ifl.getLsbD k || decide (k = line.bit)) := by
  rw [raiseInt, BitVec.getLsbD_or, line.mask_getLsbD hk]

theorem acknowledge_getLsbD (line : Line) (s : State) {k : Nat} (hk : k < 5) :
    (acknowledge line s).ifl.getLsbD k = (s.ifl.getLsbD k && !decide (k = line.bit)) := by
  rw [acknowledge, BitVec.getLsbD_and, BitVec.getLsbD_not, line.mask_getLsbD hk, decide_eq_true hk, Bool.true_and]

theorem Line.exists_bit_eq {k : Nat} (hk : k < 5) : ∃ line : Line, line.bit = k := by
  interval_cases k
  exacts [⟨.vblank, rfl⟩, ⟨.lcdStat, rfl⟩, ⟨.timer, rfl⟩, ⟨.serial, rfl⟩, ⟨.joypad, rfl⟩]

theorem Line.vector_eq (line : Line) : line.vector = BitVec.ofNat 16 (0x40 + 8 * line.bit) := by cases line <;> rfl

/-! ## The first pending line (R703, R711) -/

theorem State.pending_getLsbD (s : State) {k : Nat} (hk : k < 5) : s.pending.getLsbD k = (s.ie.getLsbD k && s.ifl.getLsbD k) := by
  simp [State.pending, hk]

theorem firstLine_of_lowest {pend : BitVec 5} {line : Line} (hset : pend.getLsbD line.bit = true)
    (hlow : ∀ j, j < line.bit → pend.getLsbD j = false) : firstLine pend = some line := by
  cases line <;> simp only [Line.bit] at hset hlow <;> simp [firstLine, hset, hlow, -BitVec.getLsbD_eq_getElem]

/-! ## The wake and the dispatch (R720) -/

theorem wake_eq (s : State) : wake s = { s with run := if s.run = .halted then .running else s.run } := by
  unfold wake
  split <;> rfl

/-- A push does not depend on RUN and keeps it. -/
theorem push16_setRun (s : State) (r : RunState) (v : Word) : push16 { s with run := r } v = { push16 s v with run := r } := by
  obtain ⟨hmem, hcart, htimer, hppu, hjoypad, hifl, hie⟩ := State.bus_eq (push16_of_bus (s := s) (t := { s with run := r }) rfl rfl v)
  ext1 <;> simp [*]

/-- The dispatch of a line after a wake: the core runs with IF bit and IME cleared, its PC pushed and the vector in PC. -/
theorem dispatchInt_wake (line : Line) (s : State) :
    dispatchInt line (wake s) =
      { push { s with ifl := s.ifl &&& ~~~((1 : BitVec 5) <<< line.bit), ime := false } s.regs.pc with
        regs := { s.regs with sp := s.regs.sp - 2, pc := BitVec.ofNat 16 (0x40 + 8 * line.bit) },
        run := if s.run = .halted then .running else s.run } := by
  rw [← push16_eq_push, ← line.vector_eq, wake_eq]
  unfold dispatchInt
  dsimp only [acknowledge]
  rw [push16_setRun { s with ifl := s.ifl &&& ~~~((1 : BitVec 5) <<< line.bit), ime := false }, wake_eq]
  simp only [State.setPc, push16_regs]
  split <;> simp_all

/-! ## The poll (R710) -/

theorem poll_of_pending_eq_zero {s : State} (h : s.pending = 0) : poll s = s := by
  obtain hpoll | ⟨line, -, hline, -⟩ := poll_cases s
  · rw [hpoll, if_pos h]
  · have hnone : firstLine s.pending = none := by rw [h]; rfl
    simp [hnone] at hline

theorem poll_of_ime_clear {s : State} (hpend : s.pending ≠ 0) (hime : s.ime = false) : poll s = wake s := by
  obtain hpoll | ⟨_, hset, -, -⟩ := poll_cases s
  · rw [hpoll, if_neg hpend]
  · simp [hime] at hset

theorem poll_of_firstLine {s : State} {line : Line} (hpend : s.pending ≠ 0) (hime : s.ime = true) (hline : firstLine s.pending = some line) :
    poll s = (dispatchInt line (wake s)).took (s.cycles + 20) := by
  simp only [poll, hime, hline, if_neg hpend]
  rfl

end Sys2Proof.Machine

open Sys2Proof.Machine Sys2Proof.Claims

/-- Settles O29: a raise sets and an acknowledge clears the one bit of the line's mask (`Line.mask_getLsbD`). -/
theorem raiseAndAcknowledgeOneLine : Obligations.RaiseAndAcknowledgeOneLine := by
  unfold Obligations.RaiseAndAcknowledgeOneLine
  exact fun line k s hk => ⟨raiseInt_getLsbD line s hk, acknowledge_getLsbD line s hk, rfl, rfl⟩

/-- Settles O28: the poll by what is pending and by IME, and the dispatch of the first pending line (`dispatchInt_wake`). -/
theorem pollTakesTheFirstPendingLine : Obligations.PollTakesTheFirstPendingLine := by
  unfold Obligations.PollTakesTheFirstPendingLine
  intro s on awake
  have hbit : ∀ k, k < 5 → s.pending.getLsbD k = on k := fun k hk => s.pending_getLsbD hk
  have hpend : ∀ k, k < 5 → on k = true → s.pending ≠ 0 := fun k hk hon =>
    (pending_ne_zero_iff s).2 ⟨k, hk, by simpa [on] using hon⟩
  refine ⟨fun hoff => ?_, fun ⟨k, hk, hon⟩ hime => ?_, fun k hk hon hlow hime => ?_⟩
  · exact poll_of_pending_eq_zero (BitVec.eq_of_getLsbD_eq fun k hk => by rw [hbit k hk, hoff k hk]; exact BitVec.getLsbD_zero.symm)
  · rw [poll_of_ime_clear (hpend k hk hon) hime, wake_eq]
  · obtain ⟨line, rfl⟩ := Line.exists_bit_eq hk
    have hline : firstLine s.pending = some line :=
      firstLine_of_lowest (by rw [hbit _ hk, hon]) fun j hj => by rw [hbit j (hj.trans hk), hlow j hj]
    rw [poll_of_firstLine (hpend _ hk hon) hime hline, dispatchInt_wake]
    rfl

end

section
/-! O39, O40. The timer as the loops of the spec, and that neither it nor the PPU depends on how cycles are grouped (spec/60_exceptions.md R750-R752, R821). -/

namespace Sys2Proof.Machine

/-! ## The divider (R750) -/

theorem divAdvance_of_lt {n : Nat} {s : State} (h : s.timer.divSub + n < 256) :
    divAdvance n s = { s with timer := { s.timer with divSub := s.timer.divSub + n } } := by
  simp [divAdvance, Config.divPeriod, Nat.div_eq_of_lt h, Nat.mod_eq_of_lt h]

/-- A whole period is one increment of DIV, and the loop goes on. -/
theorem divAdvance_of_ge {n : Nat} {s : State} (h : 256 ≤ s.timer.divSub + n) :
    divAdvance n s =
      divAdvance 0 { s with timer := { s.timer with div := BitVec.ofNat 8 (s.timer.div.toNat + 1), divSub := s.timer.divSub + n - 256 } } := by
  have hdiv : s.timer.div + BitVec.ofNat 8 ((s.timer.divSub + n) / 256) =
      BitVec.ofNat 8 (s.timer.div.toNat + 1) + BitVec.ofNat 8 ((s.timer.divSub + n - 256) / 256) := by
    apply BitVec.eq_of_toNat_eq
    simp only [BitVec.toNat_add, BitVec.toNat_ofNat]
    omega
  simp [divAdvance, Config.divPeriod, hdiv, ← Nat.mod_eq_sub_mod h]

theorem divAdvance_add (m n : Nat) (s : State) : divAdvance (m + n) s = divAdvance n (divAdvance m s) := by
  have hdiv : s.timer.div + BitVec.ofNat 8 ((s.timer.divSub + (m + n)) / 256) =
      s.timer.div + BitVec.ofNat 8 ((s.timer.divSub + m) / 256) + BitVec.ofNat 8 (((s.timer.divSub + m) % 256 + n) / 256) := by
    apply BitVec.eq_of_toNat_eq
    simp only [BitVec.toNat_add, BitVec.toNat_ofNat]
    omega
  simp [divAdvance, Config.divPeriod, hdiv, Nat.add_assoc]

/-! ## The counter (R751, R752) -/

theorem timaPeriod_eq_getD (sel : BitVec 2) : Config.timaPeriod sel = [1024, 16, 64, 256].getD sel.toNat 0 := by
  revert sel
  decide

theorem timaIncrement_eq (s : State) :
    timaIncrement s =
      if s.timer.tima = 0xFF then { s with timer := { s.timer with tima := s.timer.tma }, ifl := s.ifl ||| 0b00100 }
      else { s with timer := { s.timer with tima := BitVec.ofNat 8 (s.timer.tima.toNat + 1) } } := by
  have hsucc : s.timer.tima + 1 = BitVec.ofNat 8 (s.timer.tima.toNat + 1) := by bv_omega
  rw [timaIncrement, hsucc]
  rfl

/-- The state with TIMA_SUB replaced. -/
def State.setTimaSub (s : State) (x : Nat) : State := { s with timer := { s.timer with timaSub := x } }

@[simp] theorem State.setTimaSub_setTimaSub (s : State) (x y : Nat) : (s.setTimaSub x).setTimaSub y = s.setTimaSub y := rfl
@[simp] theorem State.setTimaSub_timaSub (s : State) (x : Nat) : (s.setTimaSub x).timer.timaSub = x := rfl
@[simp] theorem State.setTimaSub_enable (s : State) (x : Nat) : (s.setTimaSub x).timer.enable = s.timer.enable := rfl
@[simp] theorem State.setTimaSub_sel (s : State) (x : Nat) : (s.setTimaSub x).timer.sel = s.timer.sel := rfl

@[simp] theorem timaIncrements_enable (k : Nat) (s : State) : (timaIncrements k s).timer.enable = s.timer.enable := by
  obtain ⟨-, hen, -⟩ := timaIncrements_keeps k s
  exact hen

@[simp] theorem timaIncrements_sel (k : Nat) (s : State) : (timaIncrements k s).timer.sel = s.timer.sel := by
  obtain ⟨-, -, hsel, -⟩ := timaIncrements_keeps k s
  exact hsel

/-- TIMA_SUB plays no part in the increments of TIMA. -/
@[simp] theorem timaIncrements_setTimaSub (k : Nat) (s : State) (x : Nat) :
    timaIncrements k (s.setTimaSub x) = (timaIncrements k s).setTimaSub x := by
  obtain ⟨-, -, -, hdiv, hdivSub, -⟩ := timaIncrements_keeps k s
  refine (timaIncrements_withSubs k s x s.timer.divSub s.timer.div).trans ?_
  rw [← hdiv, ← hdivSub]
  rfl

theorem timaIncrements_add (j k : Nat) (s : State) : timaIncrements (j + k) s = timaIncrements k (timaIncrements j s) := by
  induction j generalizing s with
  | zero => rw [Nat.zero_add, timaIncrements]
  | succ j ih => rw [Nat.succ_add, timaIncrements, timaIncrements, ih]

theorem timaAdvance_of_disabled {s : State} (h : s.timer.enable = false) (n : Nat) : timaAdvance n s = s := by simp [timaAdvance, h]

/-- While enabled, TIMA takes one increment for each whole period and TIMA_SUB keeps the rest. -/
theorem timaAdvance_of_enabled {s : State} (h : s.timer.enable = true) (n : Nat) :
    timaAdvance n s =
      (timaIncrements ((s.timer.timaSub + n) / Config.timaPeriod s.timer.sel) s).setTimaSub
        ((s.timer.timaSub + n) % Config.timaPeriod s.timer.sel) := by
  rw [timaAdvance, if_pos h, ← timaIncrements_setTimaSub]
  rfl

theorem timaAdvance_of_lt {n : Nat} {s : State} (hen : s.timer.enable = true) (h : s.timer.timaSub + n < Config.timaPeriod s.timer.sel) :
    timaAdvance n s = s.setTimaSub (s.timer.timaSub + n) := by
  rw [timaAdvance_of_enabled hen, Nat.div_eq_of_lt h, Nat.mod_eq_of_lt h, timaIncrements]

/-- A whole period is one increment of TIMA, and the loop goes on. -/
theorem timaAdvance_of_ge {n : Nat} {s : State} (hen : s.timer.enable = true) (h : Config.timaPeriod s.timer.sel ≤ s.timer.timaSub + n) :
    timaAdvance n s = timaAdvance 0 (timaIncrement (s.setTimaSub (s.timer.timaSub + n - Config.timaPeriod s.timer.sel))) := by
  have hone : ∀ u : State, timaIncrement u = timaIncrements 1 u := fun _ => rfl
  have hdiv := Nat.div_eq_sub_div (timaPeriod_pos s.timer.sel).1 h
  rw [timaAdvance_of_enabled hen, hone, timaIncrements_setTimaSub, timaAdvance_of_enabled (by simpa using hen), hdiv, Nat.add_comm _ 1,
    timaIncrements_add, Nat.mod_eq_sub_mod h]
  simp

theorem timaAdvance_add (m n : Nat) (s : State) : timaAdvance (m + n) s = timaAdvance n (timaAdvance m s) := by
  cases hen : s.timer.enable with
  | false => simp only [timaAdvance_of_disabled hen]
  | true =>
    have hdiv : ∀ x P : Nat, 0 < P → (x + (m + n)) / P = (x + m) / P + ((x + m) % P + n) / P := fun x P hP => by
      rw [← Nat.mul_add_div hP, ← Nat.add_assoc, ← Nat.add_assoc, Nat.div_add_mod]
    rw [timaAdvance_of_enabled hen, timaAdvance_of_enabled hen, timaAdvance_of_enabled (by simpa using hen),
      hdiv _ _ (timaPeriod_pos s.timer.sel).1, timaIncrements_add]
    simp [Nat.add_assoc]

/-! ## The two together, and the PPU -/

theorem timaIncrements_divAdvance (k m : Nat) (s : State) : timaIncrements k (divAdvance m s) = divAdvance m (timaIncrements k s) := by
  have hstep : ∀ u, timaIncrement (divAdvance m u) = divAdvance m (timaIncrement u) := fun u => by
    rw [timaIncrement, timaIncrement, apply_ite (divAdvance m)]
    rfl
  induction k generalizing s with
  | zero => rfl
  | succ k ih => rw [timaIncrements, timaIncrements, hstep, ih]

theorem timaAdvance_divAdvance (n m : Nat) (s : State) : timaAdvance n (divAdvance m s) = divAdvance m (timaAdvance n s) := by
  cases hen : s.timer.enable with
  | false => rw [timaAdvance_of_disabled hen, timaAdvance_of_disabled (s := divAdvance m s) hen]
  | true =>
    rw [timaAdvance_of_enabled hen, timaAdvance_of_enabled (s := divAdvance m s) hen, timaIncrements_divAdvance]
    rfl

theorem timerAdvance_add (m n : Nat) (s : State) : timerAdvance (m + n) s = timerAdvance n (timerAdvance m s) := by
  simp only [timerAdvance, divAdvance_add, timaAdvance_add, timaAdvance_divAdvance]

theorem ppuAdvance_add (m n : Nat) (s : State) : ppuAdvance (m + n) s = ppuAdvance n (ppuAdvance m s) := by
  induction m generalizing s with
  | zero => rw [Nat.zero_add, ppuAdvance]
  | succ m ih => rw [Nat.succ_add, ppuAdvance, ppuAdvance, ih]

end Sys2Proof.Machine

open Sys2Proof.Machine

/-- Settles O39: the loops of the divider and of the counter, one period at a time (`divAdvance_of_ge`, `timaAdvance_of_ge`). -/
theorem timerAdvanceIsItsLoop : Obligations.TimerAdvanceIsItsLoop := by
  unfold Obligations.TimerAdvanceIsItsLoop
  intro n s
  dsimp only
  rw [← timaPeriod_eq_getD]
  exact ⟨rfl, divAdvance_of_lt, divAdvance_of_ge, fun hen => timaAdvance_of_disabled hen n, timaAdvance_of_lt, timaAdvance_of_ge,
    timaIncrement_eq s⟩

/-- Settles O40: both advances are additive (`timerAdvance_add`, `ppuAdvance_add`). -/
theorem devicesDoNotDependOnTheGroupingOfCycles : Obligations.DevicesDoNotDependOnTheGroupingOfCycles := by
  unfold Obligations.DevicesDoNotDependOnTheGroupingOfCycles
  exact fun m n s => ⟨timerAdvance_add m n s, ppuAdvance_add m n s⟩

end

section
/-! O42, O41. One cycle of the PPU, what it raises, snapshots and draws, and the position in the frame that its cycles count (spec/60_exceptions.md R820-R824, R830, R832, R840, R845). -/

namespace Sys2Proof.Machine

open Sys2Proof.Claims

/-! ## The counters and MODE (R820, R821) -/

theorem modeOf_eq_modeAt (p : Ppu) : modeOf p.ly p.lineCyc = modeAt p := rfl

/-- The counters are in range and MODE is the function of them (R820). -/
def Ppu.inFrame (p : Ppu) : Prop := p.ly.toNat < 154 ∧ p.lineCyc < 456 ∧ p.mode = modeAt p

theorem ppuCycle_counters (s : State) :
    (ppuCycle s).ppu.ly = (if s.ppu.lineCyc = 455 then nextLine s.ppu.ly else s.ppu.ly) ∧
      (ppuCycle s).ppu.lineCyc = (if s.ppu.lineCyc = 455 then 0 else s.ppu.lineCyc + 1) := by
  obtain ⟨hly, hcyc⟩ := ppuCount_counters s
  obtain ⟨hly', hcyc', -⟩ := ppuMode_counters (ppuCount s)
  simp only [ppuCycle, hly', hcyc', hly, hcyc, Nat.reduceEqDiff, and_self]

theorem ppuCycle_inFrame {s : State} (h : s.ppu.inFrame) : (ppuCycle s).ppu.inFrame := by
  obtain ⟨hly, hcyc, -⟩ := h
  obtain ⟨hly', hcyc'⟩ := ppuCycle_counters s
  obtain ⟨hlyMode, hcycMode, hmode⟩ := ppuMode_counters (ppuCount s)
  have hnext := nextLine_toNat _ hly
  refine ⟨?_, ?_, ?_⟩
  · rw [hly']; split <;> omega
  · rw [hcyc']; split <;> omega
  · rw [← modeOf_eq_modeAt, ppuCycle, hmode, hlyMode, hcycMode]

/-- A cycle moves the position by one, from the frame's last to its first (R821). -/
theorem position_ppuCycle {s : State} (h : s.ppu.inFrame) : position (ppuCycle s).ppu = (position s.ppu + 1) % 70224 := by
  obtain ⟨hly, hcyc, -⟩ := h
  obtain ⟨hly', hcyc'⟩ := ppuCycle_counters s
  have hnext := nextLine_toNat _ hly
  rw [position, hly', hcyc', position]
  split <;> omega

theorem ppuAdvance_inFrame (n : Nat) {s : State} (h : s.ppu.inFrame) : (ppuAdvance n s).ppu.inFrame := by
  induction n generalizing s with
  | zero => exact h
  | succ n ih => exact ih (ppuCycle_inFrame h)

theorem position_ppuAdvance (n : Nat) {s : State} (h : s.ppu.inFrame) :
    position (ppuAdvance n s).ppu = (position s.ppu + n) % 70224 := by
  have hlt : position s.ppu < 70224 := by
    obtain ⟨hly, hcyc, -⟩ := h
    unfold position
    omega
  induction n generalizing s with
  | zero => exact (Nat.mod_eq_of_lt hlt).symm
  | succ n ih =>
    have hcycle := position_ppuCycle h
    rw [ppuAdvance, ih (ppuCycle_inFrame h) (by omega), hcycle]
    omega

/-! ## The two parts of a cycle (R821, R822, R823) -/

theorem ppuCount_of_lineCyc_ne {s : State} (h : s.ppu.lineCyc ≠ 455) :
    ppuCount s = { s with ppu := { s.ppu with lineCyc := s.ppu.lineCyc + 1 } } :=
  if_neg fun hend => h (Nat.succ.inj hend)

theorem ppuCount_of_lineCyc_eq {s : State} (h : s.ppu.lineCyc = 455) :
    ppuCount s = lineChange { s with ppu := { s.ppu with lineCyc := 0, ly := nextLine s.ppu.ly } } :=
  if_pos (congrArg Nat.succ h)

@[simp] theorem lycCheck_ppu (s : State) : (lycCheck s).ppu = s.ppu := by
  unfold lycCheck
  split <;> rfl

theorem lineChange_spr (s : State) : (lineChange s).ppu.spr = if s.ppu.ly = 0 then snapshot s.mem else s.ppu.spr := by
  rw [lineChange, lycCheck_ppu]
  split <;> rfl

@[simp] theorem lineChange_mode (s : State) : (lineChange s).ppu.mode = s.ppu.mode := by
  rw [lineChange, lycCheck_ppu]
  split <;> rfl

/-- A line change raises the LCD-status line alone, when LY equals LYC and LYC_IE is set (R830). -/
theorem lineChange_getLsbD (s : State) {k : Nat} (hk : k < 5) :
    (lineChange s).ifl.getLsbD k = (s.ifl.getLsbD k || (k == 1 && s.ppu.statHi.getLsbD 3 && s.ppu.ly == s.ppu.lyc)) := by
  have hlyc : ∀ u : State, (lycCheck u).ifl.getLsbD k =
      (u.ifl.getLsbD k || (k == 1 && u.ppu.statHi.getLsbD 3 && u.ppu.ly == u.ppu.lyc)) := fun u => by
    unfold lycCheck
    split
    · next h => rw [raiseInt_getLsbD _ _ hk, Bool.and_assoc, h, Bool.and_true]; rfl
    · next h => rw [Bool.and_assoc, Bool.eq_false_iff.2 h, Bool.and_false, Bool.or_false]
  rw [lineChange, hlyc]
  split <;> rfl

@[simp] theorem ppuCount_mode (s : State) : (ppuCount s).ppu.mode = s.ppu.mode := by
  by_cases h : s.ppu.lineCyc = 455
  · rw [ppuCount_of_lineCyc_eq h, lineChange_mode]
  · rw [ppuCount_of_lineCyc_ne h]

/-- Entering a mode raises the VBlank line alone, for VBlank (R822); STAT_MODE_INTERRUPTS is false (R832). -/
theorem modeEntry_getLsbD (m : PpuMode) (s : State) {k : Nat} (hk : k < 5) :
    (modeEntry m s).ifl.getLsbD k = (s.ifl.getLsbD k || (k == 0 && decide (m = .vblank))) := by
  cases m with
  | vblank => 
    rw [modeEntry, modeInt_eq, raiseInt_getLsbD _ _ hk]
    simp only [decide_true, Bool.and_true]
    rfl
  | hblank =>
    simp only [modeEntry, modeInt_eq]
    split <;> simp [renderLine]
  | oamScan | transfer => simp [modeEntry, modeInt_eq]

theorem ppuMode_getLsbD (s : State) {k : Nat} (hk : k < 5) :
    (ppuMode s).ifl.getLsbD k = (s.ifl.getLsbD k || (k == 0 && decide (modeAt s.ppu = .vblank ∧ s.ppu.mode ≠ .vblank))) := by
  unfold ppuMode
  rw [modeOf_eq_modeAt]
  dsimp only
  split
  · next h => simp [h]
  · next h =>
    rw [modeEntry_getLsbD _ _ hk]
    by_cases hv : modeAt s.ppu = .vblank
    · simp [hv, show s.ppu.mode ≠ .vblank from fun e => h (hv.trans e.symm)]
    · simp [hv]

/-- The mode's part draws line LY when it enters HBlank with LCD_ON, and else keeps the framebuffer (R840). -/
theorem ppuMode_fb (s : State) :
    (ppuMode s).ppu.fb =
      if (modeAt s.ppu = .hblank ∧ s.ppu.mode ≠ .hblank) ∧ s.ppu.lcdc.getLsbD 7 = true then
        s.ppu.fb.set s.ppu.ly.toNat ((lineShades s.mem s.ppu s.ppu.ly.toNat).map Config.shadeArgb)
      else s.ppu.fb := by
  unfold ppuMode
  rw [modeOf_eq_modeAt]
  dsimp only
  split
  · next h => rw [if_neg fun ⟨⟨henter, hne⟩, _⟩ => hne (h ▸ henter)]
  · next h =>
    generalize modeAt s.ppu = m at h ⊢
    cases m with
    | hblank =>
      simp only [modeEntry, modeInt_eq]
      by_cases hon : s.ppu.lcdc.getLsbD 7 = true
      · rw [if_pos hon, if_pos ⟨⟨trivial, Ne.symm h⟩, hon⟩]
        rfl
      · rw [if_neg hon, if_neg fun ⟨_, hon'⟩ => hon hon']
    | vblank | oamScan | transfer => rfl

/-! ## When a cycle enters a mode (R820) -/

theorem modeAt_eq_vblank_iff (p : Ppu) : modeAt p = .vblank ↔ 144 ≤ p.ly.toNat := by
  unfold modeAt
  split_ifs <;> simp_all

theorem modeAt_eq_hblank_iff (p : Ppu) : modeAt p = .hblank ↔ p.ly.toNat < 144 ∧ 252 ≤ p.lineCyc := by
  unfold modeAt
  split_ifs <;> simp <;> omega

theorem entersVblank_iff {s : State} (h : s.ppu.inFrame) :
    modeAt (ppuCount s).ppu = .vblank ∧ s.ppu.mode ≠ .vblank ↔ s.ppu.lineCyc = 455 ∧ (ppuCycle s).ppu.ly = 144 := by
  obtain ⟨hly, hcyc, hmode⟩ := h
  have hnext := nextLine_toNat _ hly
  rw [hmode, ne_eq, modeAt_eq_vblank_iff, modeAt_eq_vblank_iff, (ppuCount_counters s).1, (ppuCycle_counters s).1,
    ← BitVec.toNat_inj]
  simp only [Nat.reduceEqDiff, BitVec.reduceToNat]
  split <;> omega

theorem entersHblank_iff {s : State} (h : s.ppu.inFrame) :
    modeAt (ppuCount s).ppu = .hblank ∧ s.ppu.mode ≠ .hblank ↔ s.ppu.lineCyc = 251 ∧ s.ppu.ly.toNat < 144 := by
  obtain ⟨hly, hcyc, hmode⟩ := h
  rw [hmode, ne_eq, modeAt_eq_hblank_iff, modeAt_eq_hblank_iff, (ppuCount_counters s).1, (ppuCount_counters s).2]
  split <;> omega

/-! ## What a cycle raises, snapshots, draws and keeps -/

theorem ppuCycle_getLsbD {s : State} (h : s.ppu.inFrame) {k : Nat} (hk : k < 5) :
    (ppuCycle s).ifl.getLsbD k =
      (s.ifl.getLsbD k || (k == 0 && decide (s.ppu.lineCyc = 455) && (ppuCycle s).ppu.ly == 144) ||
        (k == 1 && decide (s.ppu.lineCyc = 455) && s.ppu.statHi.getLsbD 3 && (ppuCycle s).ppu.ly == s.ppu.lyc)) := by
  have hly := (ppuCycle_counters s).1
  have hmode := ppuMode_getLsbD (ppuCount s) hk
  simp only [ppuCount_mode, entersVblank_iff h] at hmode
  rw [show (ppuCycle s).ifl = (ppuMode (ppuCount s)).ifl from rfl, hmode]
  by_cases hcyc : s.ppu.lineCyc = 455
  · rw [if_pos hcyc] at hly
    rw [ppuCount_of_lineCyc_eq hcyc, lineChange_getLsbD _ hk]
    simp [hcyc, hly, beq_eq_decide, Bool.or_right_comm]
  · rw [ppuCount_of_lineCyc_ne hcyc]
    simp [hcyc]

theorem ppuCycle_spr (s : State) :
    (ppuCycle s).ppu.spr = if s.ppu.lineCyc = 455 ∧ (ppuCycle s).ppu.ly = 0 then snapshot s.mem else s.ppu.spr := by
  have hmode : (ppuCycle s).ppu.spr = (ppuCount s).ppu.spr := (ppuMode_spr_fb _).1
  rw [hmode, (ppuCycle_counters s).1]
  by_cases hcyc : s.ppu.lineCyc = 455
  · rw [ppuCount_of_lineCyc_eq hcyc, lineChange_spr]
    simp [hcyc]
  · rw [ppuCount_of_lineCyc_ne hcyc]
    simp [hcyc]

theorem ppuCycle_fb {s : State} (h : s.ppu.inFrame) :
    (ppuCycle s).ppu.fb =
      if s.ppu.lineCyc = 251 ∧ s.ppu.ly.toNat < 144 ∧ s.ppu.lcdc.getLsbD 7 = true then
        s.ppu.fb.set s.ppu.ly.toNat ((lineShades s.mem s.ppu s.ppu.ly.toNat).map Config.shadeArgb)
      else s.ppu.fb := by
  have hfb : (ppuCount s).ppu.fb = s.ppu.fb := (ppuCount_spr_fb s).2
  simp only [ppuCycle, ppuMode_fb, ppuCount_mode, entersHblank_iff h, and_assoc]
  by_cases hcyc : s.ppu.lineCyc = 251
  · rw [ppuCount_of_lineCyc_ne (by omega)]
    rfl
  · simp only [hcyc, false_and, if_false, hfb]

/-- A state with what a cycle of the PPU may change taken from `u`: IF, LY, LINE_CYC, MODE, the snapshot and the framebuffer. -/
def State.withPpuOf (s u : State) : State :=
  { s with ifl := u.ifl, ppu := { s.ppu with ly := u.ppu.ly, lineCyc := u.ppu.lineCyc, mode := u.ppu.mode,
                                             spr := u.ppu.spr, fb := u.ppu.fb } }

theorem ppuCount_withPpuOf (s u : State) : (ppuCount s).withPpuOf u = s.withPpuOf u := by
  unfold ppuCount lineChange lycCheck
  split_ifs <;> rfl

theorem ppuMode_withPpuOf (s u : State) : (ppuMode s).withPpuOf u = s.withPpuOf u := by
  unfold ppuMode
  dsimp only
  split
  · rfl
  · generalize modeOf s.ppu.ly s.ppu.lineCyc = m
    cases m with
    | hblank =>
      simp only [modeEntry, modeInt_eq]
      split <;> rfl
    | vblank | oamScan | transfer => rfl

/-- Nothing else changes in a cycle. -/
theorem ppuCycle_withPpuOf (s : State) : (ppuCycle s).withPpuOf s = s :=
  (ppuMode_withPpuOf (ppuCount s) s).trans (ppuCount_withPpuOf s s)

/-! ## The lines of a frame (R824) -/

/-- From the start of a frame to the start of line `k`. -/
theorem ppuAdvance_to_line {s : State} (h : s.ppu.inFrame) (hpos : position s.ppu = 0) {n k : Nat} (hn : n % 70224 = 456 * k) :
    (ppuAdvance n s).ppu.ly = BitVec.ofNat 8 k ∧ (ppuAdvance n s).ppu.mode = if 144 ≤ k then .vblank else .oamScan := by
  obtain ⟨hly, hcyc, hmode⟩ := ppuAdvance_inFrame n h
  have hmoved := position_ppuAdvance n h
  rw [hpos, Nat.zero_add, hn, position] at hmoved
  have hlyk : (ppuAdvance n s).ppu.ly.toNat = k := by omega
  have hcyc0 : (ppuAdvance n s).ppu.lineCyc = 0 := by omega
  exact ⟨by rw [← hlyk, BitVec.ofNat_toNat, BitVec.setWidth_eq], by rw [hmode, modeAt, hlyk, hcyc0]; rfl⟩

/-- The cycle that makes LY 144 raises the VBlank line (R822). -/
theorem ppuAdvance_vblank {s : State} (h : s.ppu.inFrame) (hpos : position s.ppu = 0) {n : Nat} (hn : n + 1 = 65664) :
    (ppuAdvance (n + 1) s).ifl.getLsbD 0 = true := by
  have hsplit : ppuAdvance (n + 1) s = ppuCycle (ppuAdvance n s) := ppuAdvance_add n 1 s
  have hly : (ppuCycle (ppuAdvance n s)).ppu.ly = 144 := by
    rw [← hsplit]
    exact (ppuAdvance_to_line h hpos (k := 144) (by omega)).1
  obtain ⟨-, hcyc, -⟩ := ppuAdvance_inFrame n h
  have hmoved := position_ppuAdvance n h
  have hlast : (ppuAdvance n s).ppu.lineCyc = 455 := by
    rw [hpos, position] at hmoved
    omega
  rw [hsplit, ppuCycle_getLsbD (ppuAdvance_inFrame n h) (by decide), hly, hlast]
  simp

end Sys2Proof.Machine

open Sys2Proof.Machine Sys2Proof.Claims

/-- Settles O42: the counting and the mode's part of a cycle, each with what it raises, and the frame of both (`ppuCycle_withPpuOf`). -/
theorem onePpuCycle : Obligations.OnePpuCycle := by
  unfold Obligations.OnePpuCycle
  intro s hly hcyc hmode
  have h : s.ppu.inFrame := ⟨hly, hcyc, hmode⟩
  simp only [decide_eq_true_eq]
  exact ⟨fun k hk => ppuCycle_getLsbD h hk, ppuCycle_spr s, ppuCycle_fb h, ppuCycle_withPpuOf s⟩

/-- Settles O41: the position is counted modulo a frame (`position_ppuAdvance`), and line 144 begins with the VBlank line raised. -/
theorem ppuPositionAndTiming : Obligations.PpuPositionAndTiming := by
  unfold Obligations.PpuPositionAndTiming
  refine ⟨fun n s hly hcyc hmode => ?_, fun s hly hcyc hmode => ?_⟩
  · have h : s.ppu.inFrame := ⟨hly, hcyc, hmode⟩
    exact ⟨position_ppuAdvance n h, ppuAdvance_inFrame n h⟩
  · have h : s.ppu.inFrame := ⟨by simp [hly], by simp [hcyc], by simp [hmode, modeAt, hly, hcyc]⟩
    have hpos : position s.ppu = 0 := by simp [position, hly, hcyc]
    have hline {n k : Nat} := @ppuAdvance_to_line s h hpos n k
    exact ⟨hline (k := 1) rfl, ⟨(hline (k := 144) rfl).1, (hline (k := 144) rfl).2, ppuAdvance_vblank h hpos rfl⟩, hline (k := 0) rfl⟩

end

section
/-! O43, O45, O44. The line renderer: the background and the window, the drawing order of the sprites, and the sprites over the line (spec/60_exceptions.md R840-R847). -/

namespace Sys2Proof.Machine

open Sys2Proof.Claims

/-! ## The background and the window (R842, R843, R847) -/

theorem mapPixel_toNat (m : Memory) (p : Ppu) {map : Nat} (hmap : 0x8000 ≤ map) (px py : Nat) :
    (mapPixel m p map px py).toNat = mapShade m p map px py := by
  have hidx : vramAt m (map + py / 8 * 32 + px / 8) = m.read .vram (map - 0x8000 + py / 8 * 32 + px / 8) :=
    congrArg (m.read .vram) (by omega)
  have hbase : ∀ base k : Nat, 0x8000 + base + k - 0x8000 = base + k := by omega
  rw [mapPixel, paletteShade_toNat, tilePixel_toNat, hidx, bgTileAddr_eq, Nat.add_assoc, hbase, hbase]
  rfl

theorem tileMap_ge (high : Bool) : 0x8000 ≤ tileMap high := by cases high <;> decide

theorem bgPixel_toNat (m : Memory) (p : Ppu) (y x : Nat) :
    (bgPixel m p y x).toNat =
      mapShade m p (if p.lcdc.getLsbD 3 then 0x9C00 else 0x9800) ((x + p.scx.toNat) % 256) ((y + p.scy.toNat) % 256) :=
  mapPixel_toNat m p (tileMap_ge _) _ _

theorem windowPixel_toNat (m : Memory) (p : Ppu) (y x : Nat) (under : BitVec 2) :
    (windowPixel m p y x under).toNat =
      if p.wx.toNat ≤ x + 7 then mapShade m p (if p.lcdc.getLsbD 6 then 0x9C00 else 0x9800) (x + 7 - p.wx.toNat) (y - p.wy.toNat)
      else under.toNat := by
  rw [windowPixel, apply_ite BitVec.toNat, mapPixel_toNat m p (tileMap_ge _)]
  rfl

theorem backLine_getD (m : Memory) (p : Ppu) (y : Nat) {x : Nat} (hx : x < 160) :
    (backLine m p y).getD x 0 = if p.lcdc.getLsbD 0 then bgPixel m p y x else 0 := by
  unfold backLine
  split <;> simp [List.getD_eq_getElem?_getD, show x < Config.lineWidth from hx]

theorem windowLine_getD (m : Memory) (p : Ppu) (y : Nat) {x : Nat} (hx : x < 160) :
    (windowLine m p y).getD x 0 =
      if p.lcdc.getLsbD 0 = true ∧ p.lcdc.getLsbD 5 = true ∧ p.wy.toNat ≤ y then windowPixel m p y x ((backLine m p y).getD x 0)
      else (backLine m p y).getD x 0 := by
  have hlen : x < (backLine m p y).length := by rwa [backLine_length]
  by_cases h : p.lcdc.getLsbD 0 = true ∧ p.lcdc.getLsbD 5 = true ∧ p.wy.toNat ≤ y
  · rw [windowLine, if_pos h, if_pos (by simpa [and_assoc] using h)]
    simp [List.getD_eq_getElem?_getD, hlen, show x < Config.lineWidth from hx]
  · rw [windowLine, if_neg h, if_neg (by simpa [and_assoc] using h)]

theorem lineShades_of_sprites_off (m : Memory) {p : Ppu} (y : Nat) (h : p.lcdc.getLsbD 1 = false) : lineShades m p y = windowLine m p y :=
  if_neg (Bool.eq_false_iff.1 h)

theorem lineShades_of_sprites_on (m : Memory) {p : Ppu} (y : Nat) (h : p.lcdc.getLsbD 1 = true) :
    lineShades m p y = (spriteOrder p.spr).foldl (drawSprite m p y) (windowLine m p y) :=
  if_pos h

theorem and_0xFD_getLsbD (v : Byte) {k : Nat} (hk : k < 8) : (v &&& 0xFD).getLsbD k = (v.getLsbD k && k != 1) := by
  have hmask : ∀ j, j < 8 → (0xFD : Byte).getLsbD j = (j != 1) := by decide
  rw [BitVec.getLsbD_and, hmask k hk]

/-- OBJ_ON plays no part in the background and the window (R840). -/
theorem lineShades_sprites_cleared (m : Memory) (p : Ppu) (y : Nat) :
    lineShades m { p with lcdc := p.lcdc &&& 0xFD } y = windowLine m p y := by
  have hkept : ∀ k, k < 8 → k ≠ 1 → (p.lcdc &&& 0xFD).getLsbD k = p.lcdc.getLsbD k := fun k hk hne => by
    rw [and_0xFD_getLsbD _ hk, bne_iff_ne.2 hne, Bool.and_true]
  generalize hq : ({ p with lcdc := p.lcdc &&& 0xFD } : Ppu) = q
  have hlcdc : ∀ k, k < 8 → k ≠ 1 → q.lcdc.getLsbD k = p.lcdc.getLsbD k := hq ▸ hkept
  have hoff : q.lcdc.getLsbD 1 = false := by rw [← hq, and_0xFD_getLsbD _ (by decide)]; exact Bool.and_false _
  obtain ⟨hbgp, hscx, hscy, hwx, hwy⟩ : q.bgp = p.bgp ∧ q.scx = p.scx ∧ q.scy = p.scy ∧ q.wx = p.wx ∧ q.wy = p.wy := by
    rw [← hq]
    exact ⟨rfl, rfl, rfl, rfl, rfl⟩
  have hmap : mapPixel m q = mapPixel m p := by
    funext map px py
    simp only [mapPixel, bgTileAddr, hbgp, hlcdc 4 (by decide) (by decide)]
  have hback : bgPixel m q y = bgPixel m p y := by
    funext x
    simp only [bgPixel, hmap, hscx, hscy, hlcdc 3 (by decide) (by decide)]
  have hwindow : windowPixel m q y = windowPixel m p y := by
    funext x under
    simp only [windowPixel, hmap, hwx, hwy, hlcdc 6 (by decide) (by decide)]
  rw [lineShades_of_sprites_off m y hoff]
  simp only [windowLine, backLine, hback, hwindow, hwy, hlcdc 0 (by decide) (by decide), hlcdc 5 (by decide) (by decide)]

/-! ## The drawing order (R846), which is an insertion sort -/

theorem insertSprite_eq_orderedInsert (a : Sprite) (l : List Sprite) :
    insertSprite a l = l.orderedInsert (fun a b => a.before b = true) a := by
  induction l with
  | nil => rfl
  | cons b t ih => rw [insertSprite, List.orderedInsert_cons, ih]

theorem spriteOrder_eq_insertionSort (l : List Sprite) : spriteOrder l = l.insertionSort fun a b => a.before b = true := by
  induction l with
  | nil => rfl
  | cons a t ih => rw [spriteOrder, List.insertionSort_cons, ih, insertSprite_eq_orderedInsert]

theorem spriteOrder_pairwise (l : List Sprite) : (spriteOrder l).Pairwise fun a b => a.before b = true := by
  have : Std.Total fun a b : Sprite => a.before b = true := ⟨Sprite.before_total⟩
  have : IsTrans Sprite fun a b => a.before b = true := ⟨fun _ _ _ => Sprite.before_trans⟩
  rw [spriteOrder_eq_insertionSort]
  exact List.pairwise_insertionSort _ l

/-! ## The sprites over the line (R844) -/

theorem getD_set (line : List (BitVec 2)) (i x : Nat) (v : BitVec 2) (hx : x < line.length) :
    (line.set i v).getD x 0 = if i = x then v else line.getD x 0 := by
  simp only [List.getD_eq_getElem?_getD, List.getElem?_set]
  split
  · next h => subst h; simp [hx]
  · rfl

theorem drawColumn_getD (m : Memory) (p : Ppu) (h : Nat) (o : Sprite) (row col : Nat) {line : List (BitVec 2)} (hlen : line.length = 160)
    {x : Nat} (hx : x < 160) :
    (drawColumn m p h o row line col).getD x 0 =
      if o.x.toNat + col = x + 8 ∧ spriteColour m h o row col ≠ 0 then
        paletteShade (if o.flags.getLsbD 4 then p.obp1 else p.obp0) (spriteColour m h o row col)
      else line.getD x 0 := by
  have hwidth : Config.lineWidth = 160 := rfl
  dsimp only [drawColumn]
  split
  · next hvisible =>
    obtain ⟨hleft, -, hcolour⟩ := hvisible
    have hat : o.x.toNat + col - 8 = x ↔ o.x.toNat + col = x + 8 := by omega
    rw [getD_set _ _ _ _ (hlen ▸ hx)]
    simp only [hat, hcolour, ne_eq, not_false_eq_true, and_true]
  · next hhidden => rw [if_neg fun hc => hhidden ⟨by omega, by omega, hc.2⟩]

/-- What a sprite's first `n` columns leave at column x of the line: its own pixel there, unless transparent, over what was there. -/
theorem drawColumns_getD (m : Memory) (p : Ppu) (h : Nat) (o : Sprite) (row n : Nat) {line : List (BitVec 2)} (hlen : line.length = 160)
    {x : Nat} (hx : x < 160) :
    ((List.range n).foldl (drawColumn m p h o row) line).getD x 0 =
      if (o.x.toNat ≤ x + 8 ∧ x + 8 < o.x.toNat + n) ∧ spriteColour m h o row (x + 8 - o.x.toNat) ≠ 0 then
        paletteShade (if o.flags.getLsbD 4 then p.obp1 else p.obp0) (spriteColour m h o row (x + 8 - o.x.toNat))
      else line.getD x 0 := by
  induction n with
  | zero => rw [if_neg (by omega)]; rfl
  | succ n ih =>
    rw [List.range_succ, List.foldl_append, List.foldl_cons, List.foldl_nil,
      drawColumn_getD m p h o row n (by rw [drawColumns_length, hlen]) hx, ih]
    by_cases hcol : o.x.toNat + n = x + 8
    · have hn : x + 8 - o.x.toNat = n := by omega
      have hlast : o.x.toNat ≤ x + 8 ∧ x + 8 < o.x.toNat + (n + 1) := by omega
      simp only [hn, hcol, hlast, Nat.lt_irrefl, true_and, and_self, and_false, false_and, if_false]
    · have hsame : (o.x.toNat ≤ x + 8 ∧ x + 8 < o.x.toNat + (n + 1)) ↔ (o.x.toNat ≤ x + 8 ∧ x + 8 < o.x.toNat + n) := by omega
      simp only [hcol, hsame, false_and, if_false]

theorem spriteHeight_eq (lcdc : Byte) : spriteHeight lcdc = if lcdc.toNat / 4 % 2 = 1 then 16 else 8 := by
  simp only [spriteHeight, getLsbD_eq_decide, decide_eq_true_eq, Nat.reducePow]

theorem and_0xFE_toNat (v : Byte) : (v &&& 0xFE).toNat = v.toNat / 2 * 2 := by
  revert v
  decide

/-- The colour index of a sprite's pixel, on exact numbers. -/
theorem spriteColour_toNat (m : Memory) (h : Nat) (o : Sprite) (row col : Nat) :
    (spriteColour m h o row col).toNat =
      (let r := if o.flags.toNat / 64 % 2 = 1 then h - 1 - row else row
       let c := if o.flags.toNat / 32 % 2 = 1 then 7 - col else col
       let tile := if h = 16 then o.tile.toNat / 2 * 2 else o.tile.toNat
       2 * ((m.read .vram (tile * 16 + 2 * r + 1)).toNat / 2 ^ (7 - c) % 2) + (m.read .vram (tile * 16 + 2 * r)).toNat / 2 ^ (7 - c) % 2) := by
  have hbase : ∀ base k : Nat, 0x8000 + base + k - 0x8000 = base + k := by omega
  rw [spriteColour, tilePixel_toNat, Nat.add_assoc _ _ 1, hbase, hbase]
  simp only [getLsbD_eq_decide, decide_eq_true_eq, Nat.reducePow, apply_ite BitVec.toNat, and_0xFE_toNat, Nat.add_assoc]

/-- The sprite's pixel in the renderer's terms. -/
theorem spriteShade_eq (m : Memory) (p : Ppu) (o : Sprite) (x y : Nat) :
    spriteShade m p o x y =
      (let h := spriteHeight p.lcdc
       let ci := spriteColour m h o (y + 16 - o.y.toNat) (x + 8 - o.x.toNat)
       if (o.y.toNat ≤ y + 16 ∧ y + 16 < o.y.toNat + h) ∧ (o.x.toNat ≤ x + 8 ∧ x + 8 < o.x.toNat + 8) ∧ ci ≠ 0 then
         some (paletteShade (if o.flags.getLsbD 4 then p.obp1 else p.obp0) ci).toNat
       else none) := by
  have hcover : ((o.y.toNat : Int) - 16 ≤ y ∧ (y : Int) < (o.y.toNat : Int) - 16 + spriteHeight p.lcdc ∧
      (o.x.toNat : Int) - 8 ≤ x ∧ (x : Int) < (o.x.toNat : Int) - 8 + 8) ↔
      (o.y.toNat ≤ y + 16 ∧ y + 16 < o.y.toNat + spriteHeight p.lcdc) ∧ o.x.toNat ≤ x + 8 ∧ x + 8 < o.x.toNat + 8 := by omega
  have hci := spriteColour_toNat m (spriteHeight p.lcdc) o (y + 16 - o.y.toNat) (x + 8 - o.x.toNat)
  dsimp only at hci
  unfold spriteShade
  simp only [← spriteHeight_eq, hcover, ← hci]
  generalize spriteColour m (spriteHeight p.lcdc) o (y + 16 - o.y.toNat) (x + 8 - o.x.toNat) = ci
  have hclear : ci.toNat = 0 ↔ ci = 0 := BitVec.toNat_inj (y := (0 : BitVec 2))
  by_cases hpixel : ci = 0
  · simp [hpixel]
  · simp only [hclear, hpixel, paletteShade_toNat, getLsbD_eq_decide, decide_eq_true_eq, Nat.reducePow, ne_eq, not_false_eq_true, and_true,
      if_false]

theorem drawSprite_getD_toNat (m : Memory) (p : Ppu) (y : Nat) (o : Sprite) {line : List (BitVec 2)} (hlen : line.length = 160)
    {x : Nat} (hx : x < 160) :
    ((drawSprite m p y line o).getD x 0).toNat = (spriteShade m p o x y).getD (line.getD x 0).toNat := by
  rw [spriteShade_eq]
  dsimp only [drawSprite]
  split
  · next hrow =>
    rw [drawColumns_getD m p _ o _ 8 hlen hx, apply_ite BitVec.toNat]
    simp only [hrow, true_and, and_self]
    split <;> rfl
  · next hrow => rw [if_neg fun hc => hrow hc.1]; rfl

theorem drawSprites_getD_toNat (m : Memory) (p : Ppu) (y : Nat) (l : List Sprite) {line : List (BitVec 2)} (hlen : line.length = 160)
    {x : Nat} (hx : x < 160) :
    ((l.foldl (drawSprite m p y) line).getD x 0).toNat =
      l.foldl (fun under o => (spriteShade m p o x y).getD under) (line.getD x 0).toNat := by
  induction l generalizing line with
  | nil => rfl
  | cons o t ih =>
    rw [List.foldl_cons, List.foldl_cons, ih (by rw [drawSprite_length, hlen]), drawSprite_getD_toNat m p y o hlen hx]

end Sys2Proof.Machine

open Sys2Proof.Machine Sys2Proof.Claims

/-- Settles O43: the pixels of the window's line (`windowLine_getD`, `backLine_getD`), each a pixel of a tile map (`mapPixel_toNat`). -/
theorem backgroundAndWindowPixels : Obligations.BackgroundAndWindowPixels := by
  unfold Obligations.BackgroundAndWindowPixels
  intro m p x y hx _ hoff
  refine ⟨lineShades_length m p y, ?_⟩
  rw [lineShades_of_sprites_off m y hoff, windowLine_getD m p y hx, backLine_getD m p y hx]
  cases hbg : p.lcdc.getLsbD 0 with
  | false => simp
  | true =>
    simp only [true_and, Bool.true_eq_false, if_false, if_true]
    rw [apply_ite BitVec.toNat, windowPixel_toNat, bgPixel_toNat, ← ite_and]
    simp only [and_assoc]

/-- Settles O45: the order is an insertion sort by a total and transitive relation (`spriteOrder_pairwise`). -/
theorem spritesAreDrawnInOrder : Obligations.SpritesAreDrawnInOrder := by
  unfold Obligations.SpritesAreDrawnInOrder
  refine fun l => ⟨?_, (spriteOrder_pairwise l).imp fun {o q} hbefore => (Sprite.before_iff o q).1 hbefore⟩
  rw [spriteOrder_eq_insertionSort]
  exact List.perm_insertionSort _ l

/-- Settles O44: each sprite draws its own pixel over the line (`drawSprites_getD_toNat`), which begins as the line without sprites. -/
theorem spritePixels : Obligations.SpritePixels := by
  unfold Obligations.SpritePixels
  intro m p x y hx _ hon
  rw [lineShades_of_sprites_on m y hon, lineShades_sprites_cleared, drawSprites_getD_toNat m p y _ (windowLine_length m p y) hx]

end

section
/-! O46. The joypad: the press and the release of a button, and the host's moves before a tick (spec/60_exceptions.md R800, R802, spec/45_system.md R613). -/

namespace Sys2Proof.Machine

theorem Buttons.get_put (b : Buttons) (k q : Button) (v : Bool) : (b.put k v).get q = if q = k then v else b.get q := by
  cases k <;> cases q <;> rfl

theorem leaveStop_eq (s : State) : leaveStop s = { s with run := if s.run = .stopped then .running else s.run } := by
  unfold leaveStop
  split <;> rfl

theorem press_of_pressed {k : Button} {s : State} (h : s.joypad.btn.get k = true) : press k s = s := if_pos h

theorem press_of_released {k : Button} {s : State} (h : s.joypad.btn.get k = false) :
    press k s = leaveStop (raiseInt .joypad (s.setBtn k true)) :=
  if_neg (Bool.eq_false_iff.1 h)

theorem hostTurn_of_nil {s : State} (h : s.hostMoves = []) : hostTurn s = s := by rw [hostTurn, h]

theorem hostTurn_of_cons {s : State} {b : List HostMove} {bs : List (List HostMove)} (h : s.hostMoves = b :: bs) :
    hostTurn s = b.foldl hostMove { s with hostMoves := bs } := by
  rw [hostTurn, h]

end Sys2Proof.Machine

open Sys2Proof.Machine

/-- Settles O46: a press by what the button was (`press_of_released`), a release by its meaning, and the turn by the batches left. -/
theorem buttonsRaiseTheJoypadLine : Obligations.ButtonsRaiseTheJoypadLine := by
  unfold Obligations.ButtonsRaiseTheJoypadLine
  refine fun k b bs s => ⟨press_of_pressed, fun h => ?_, rfl, fun q v => s.joypad.btn.get_put k q v, hostTurn_of_nil, hostTurn_of_cons⟩
  rw [press_of_released h, leaveStop_eq]
  rfl

end

section
/-! O47. The checks of the load in their order, and the checksum as the sum it stands for (spec/70_reset_and_hazards.md R911-R916). -/

namespace Sys2Proof.Machine

/-! ## The codes the header may hold -/

/-- The cartridge types that are not supported (R913). -/
theorem cartKind_eq_none_iff {type : Byte} : cartKind type = none ↔ ¬ type.toNat ≤ 3 := by
  unfold cartKind
  split <;> simp only [imp_false, reduceCtorEq, false_iff, true_iff] at * <;> omega

/-- The ROM-size codes out of range (R911). -/
theorem romBanks_eq_none_iff {code : Byte} : romBanks code = none ↔ ¬ code.toNat ≤ 8 := by simp [romBanks]

/-- The RAM-size codes out of range (R912). -/
theorem ramBytes_eq_none_iff {code : Byte} : ramBytes code = none ↔ ¬ code.toNat ≤ 5 := by
  unfold ramBytes
  split <;> simp only [imp_false, reduceCtorEq, false_iff, true_iff] at * <;> omega

/-! ## The checks in their order (R916) -/

section
variable {img : List Byte}

theorem cartCheck_of_short (hshort : ¬ 0x150 ≤ img.length) : cartCheck img = .error .invalidHeader := by
  rw [cartCheck, if_pos (Nat.not_le.1 hshort)]

theorem cartCheck_of_otherLogo (hpresent : 0x150 ≤ img.length) (hlogo : (img.drop 0x104).take 48 ≠ Config.logo) :
    cartCheck img = .error .invalidHeader := by
  rw [cartCheck, if_neg (Nat.not_lt.2 hpresent), if_pos hlogo]

theorem cartCheck_of_wrongChecksum (hpresent : 0x150 ≤ img.length) (hlogo : (img.drop 0x104).take 48 = Config.logo)
    (hsum : headerChecksum img ≠ img.getD 0x14D 0) : cartCheck img = .error .invalidHeader := by
  rw [cartCheck, if_neg (Nat.not_lt.2 hpresent), if_neg (not_not.2 hlogo), if_pos hsum]

variable (hpresent : 0x150 ≤ img.length) (hlogo : (img.drop 0x104).take 48 = Config.logo)
  (hsum : headerChecksum img = img.getD 0x14D 0)

include hpresent hlogo hsum

theorem cartCheck_of_unsupportedType (htype : cartKind (img.getD 0x147 0) = none) :
    cartCheck img = .error .unsupportedCartridgeType := by
  rw [cartCheck, if_neg (Nat.not_lt.2 hpresent), if_neg (not_not.2 hlogo), if_neg (not_not.2 hsum), htype]

theorem cartCheck_of_badSizes {kind : CartKind} (hkind : cartKind (img.getD 0x147 0) = some kind)
    (hsizes : romBanks (img.getD 0x148 0) = none ∨ ramBytes (img.getD 0x149 0) = none) :
    cartCheck img = .error .invalidHeader := by
  rw [cartCheck, if_neg (Nat.not_lt.2 hpresent), if_neg (not_not.2 hlogo), if_neg (not_not.2 hsum), hkind]
  rcases hsizes with hrom | hram
  · rw [hrom]
  · rw [hram]
    cases romBanks (img.getD 0x148 0) <;> rfl

theorem cartCheck_of_accepted {kind : CartKind} {nrom bytes : Nat} (hkind : cartKind (img.getD 0x147 0) = some kind)
    (hrom : romBanks (img.getD 0x148 0) = some nrom) (hram : ramBytes (img.getD 0x149 0) = some bytes) :
    cartCheck img = .ok (Cart.reset kind img.length nrom (cartRamSize (img.getD 0x147 0) bytes)) := by
  rw [cartCheck, if_neg (Nat.not_lt.2 hpresent), if_neg (not_not.2 hlogo), if_neg (not_not.2 hsum), hkind, hrom, hram]

end

theorem load_of_refused {img : List Byte} {r : LoadRefusal} (h : cartCheck img = .error r) (init : Memory) (fb : List (List Argb)) :
    load img init fb = .error r := by
  rw [load, h]

theorem load_of_accepted {img : List Byte} {c : Cart} (h : cartCheck img = .ok c) (init : Memory) (fb : List (List Argb)) :
    load img init fb = .ok (State.resetWith c { init with cartRom := Cells.ofBytes 0 img } fb) := by
  rw [load, h]

/-! ## The checksum (R915) -/

/-- What the checksum's loop takes away from `x` is the sum of its bytes' successors, modulo 256. -/
theorem checksumFold_add_sum (bs : List Byte) (x : Byte) :
    ((bs.foldl (fun x b => x - (b + 1)) x).toNat + (bs.map (fun b => b.toNat + 1)).sum) % 256 = x.toNat % 256 := by
  induction bs generalizing x with
  | nil => rfl
  | cons b t ih =>
    have hstep : ((x - (b + 1)).toNat + (b.toNat + 1)) % 256 = x.toNat % 256 := by bv_omega
    have hrest := ih (x - (b + 1))
    simp only [List.foldl_cons, List.map_cons, List.sum_cons]
    omega

end Sys2Proof.Machine

open Sys2Proof.Machine Sys2Proof.Claims

/-- Settles O47: one lemma for each check of CartCheck, in R916's order (`cartCheck_of_short` to `cartCheck_of_accepted`); the checksum by `checksumFold_add_sum`. -/
theorem loadChecksTheHeaderInOrder : Obligations.LoadChecksTheHeaderInOrder := by
  unfold Obligations.LoadChecksTheHeaderInOrder
  intro img init fb present logo sum type sizes
  have hsupported : type → ∃ kind, cartKind (img.getD 0x147 0) = some kind := fun htype =>
    Option.ne_none_iff_exists'.1 fun hnone => cartKind_eq_none_iff.1 hnone htype
  refine ⟨fun _ => checksumFold_add_sum _ 0, fun hshort => ?short, fun hpresent hother => ?otherLogo,
    fun hpresent hlogo hwrong => ?wrongChecksum, fun hpresent hlogo hsum hother => ?unsupportedType,
    fun hpresent hlogo hsum htype hbad => ?badSizes, fun hpresent hlogo hsum htype hsizes => ?accepted⟩
  case short => exact load_of_refused (cartCheck_of_short hshort) init fb
  case otherLogo => exact load_of_refused (cartCheck_of_otherLogo hpresent hother) init fb
  case wrongChecksum => exact load_of_refused (cartCheck_of_wrongChecksum hpresent hlogo hwrong) init fb
  case unsupportedType =>
    exact load_of_refused (cartCheck_of_unsupportedType hpresent hlogo hsum (cartKind_eq_none_iff.2 hother)) init fb
  case badSizes =>
    obtain ⟨kind, hkind⟩ := hsupported htype
    have hnone := (not_and_or.1 hbad).imp romBanks_eq_none_iff.2 ramBytes_eq_none_iff.2
    exact load_of_refused (cartCheck_of_badSizes hpresent hlogo hsum hkind hnone) init fb
  case accepted =>
    obtain ⟨kind, hkind⟩ := hsupported htype
    obtain ⟨nrom, hrom⟩ := Option.ne_none_iff_exists'.1 fun hnone => romBanks_eq_none_iff.1 hnone hsizes.1
    obtain ⟨bytes, hram⟩ := Option.ne_none_iff_exists'.1 fun hnone => ramBytes_eq_none_iff.1 hnone hsizes.2
    exact ⟨_, load_of_accepted (cartCheck_of_accepted hpresent hlogo hsum hkind hrom hram) init fb⟩

end

section
/-! O50. A loaded core is the reset table over the image and the given memories, so it begins in the invariant (spec/70_reset_and_hazards.md R900, spec/10_state.md R48, R66). -/

namespace Sys2Proof.Machine

/-- An accepted cartridge is as long as its image, and its bank controller is at its reset value (R900, R66). -/
theorem cartCheck_romSize_bankLo {img : List Byte} {c : Cart} (h : cartCheck img = .ok c) :
    c.romSize = img.length ∧ c.bankLo = 1 := by
  obtain ⟨kind, nrom, bytes, -, -, -, rfl⟩ := cartCheck_ok h
  exact ⟨rfl, rfl⟩

theorem Memory.withImage_wf {m : Memory} (h : m.wf) (img : List Byte) : ({ m with cartRom := Cells.ofBytes 0 img } : Memory).wf := by
  obtain ⟨hvram, hwram, hoam, hhram, haudio, hram, -⟩ := h
  exact ⟨hvram, hwram, hoam, hhram, haudio, hram, Cells.ofBytes_wf 0 img⟩

theorem Memory.withImage_within {m : Memory} {ramSize : Nat} (hfixed : fixedWithin m) (hram : Cells.within m.cartRam ramSize)
    (img : List Byte) : ({ m with cartRom := Cells.ofBytes 0 img } : Memory).within ramSize img.length := by
  obtain ⟨hvram, hwram, hoam, hhram, haudio⟩ := hfixed
  exact ⟨hvram, hwram, hoam, hhram, haudio, hram, Cells.ofBytes_within img⟩

end Sys2Proof.Machine

open Sys2Proof.Machine

/-- Settles O50: the loaded state is the reset table (`load_ok`), which meets the invariant over memories in shape (`State.resetWith_inv`), and the image lies in CART_ROM canonically (`Memory.withImage_wf`, `Memory.withImage_within`). -/
theorem loadedStateMeetsTheInvariant : Obligations.LoadedStateMeetsTheInvariant := by
  unfold Obligations.LoadedStateMeetsTheInvariant
  intro img init fb s h hwf hfixed hram hfb
  obtain ⟨c, hc, rfl⟩ := load_ok h
  obtain ⟨hsize, hbank⟩ := cartCheck_romSize_bankLo hc
  refine State.resetWith_inv (Memory.withImage_wf hwf img) ?_ (by rw [hbank]; decide) hfb
  rw [hsize]
  exact Memory.withImage_within hfixed hram img

end
